-- ==== Sys2Proof/Word.lean ====
section
/-! DEFINITION. The engine's word type: every channel and the window move bytes (R40, R47); every other value of the
spec is an unsigned natural (R8). -/

namespace Sys2Proof

/-- One byte of the input channel, the output channel or the window (R40). -/
abbrev Byte := BitVec 8

/-- One bit of the input stream (R9). -/
abbrev Bit := Bool

end Sys2Proof
end

