-- ==== Sys2Proof/Config.lean ====
section
/-! DEFINITION. The implementation parameters (R7). -/

namespace Sys2Proof

/-- The parameter `LIT_TABLE_SOURCE` (R3): where the literal code lengths come from. -/
inductive LitTableSource where
  /-- The constant table of the format; this hardware (R3, D6). -/
  | fixed
  /-- Read from the input after the header (R111). -/
  | stream
deriving DecidableEq, Repr

namespace Config

/-- The value of `LIT_TABLE_SOURCE` on this hardware (R3, R7). -/
def litTableSource : LitTableSource := .fixed

/-- `WIN_PHYS`: bytes of physical window storage (R7, R96). -/
abbrev winPhys : Nat := 4096

/-- `CNT_W`: the width of the visible counters, OPEN (R7, R34); `none` is an unbounded counter. It has no body, so no
proof can lean on a width. DESIGN CHOICE, safe (log 3). -/
opaque cntW : Option Nat

end Config

end Sys2Proof
end

