-- ==== Sys2Proof/Syntax.lean ====
section
/-! DEFINITION. The instructions: one constructor per row of spec/opcode_table.json, and the small type `Op` that says,
for each constructor, which operation it is and with which operands. -/

namespace Sys2Proof

/-- The rows of spec/opcode_table.json.
`LEN.s`, `DIST.t` and `LIT.c` are the Huffman code fields of the tokens, executed at field granularity (log 7). -/
inductive Instr where
  /-- `HDR` (R60, R108): any header but the six legal ones, which have constructors of their own (log 12). -/
  | hdr (L D : Byte)
  /-- `HDR raw, 4` to `HDR coded, 6`: the six legal header values (R61, R63). -/
  | hdrRaw4
  | hdrRaw5
  | hdrRaw6
  | hdrCoded4
  | hdrCoded5
  | hdrCoded6
  /-- `LITTAB_FIXED` (R110): consumes no bits. -/
  | littabFixed
  /-- `LTP` (R65): a unit of a transmitted literal table, code length `l`, repeat count minus one `r`. -/
  | ltp (l r : BitVec 4)
  /-- `LIT_RAW` (R66, R113). -/
  | litRaw (c : Byte)
  /-- `LIT_CODED` (R67, R114): the literal symbol `c`. -/
  | litCoded (c : Byte)
  /-- `MATCH` (R68, R120): length symbol `s`, its extra bits `x`, distance symbol `t`, its extra bits `y`. -/
  | matchRef (s : Fin 16) (x : Nat) (t : Fin 64) (y : Nat)
  /-- `END` (R69, R123). -/
  | endOfStream
  -- LEN.s (R72) with its LEN_EXTRA[s] extra bits x (R116); symbols 0 to 7 have none
  | len0  | len1  | len2  | len3  | len4  | len5  | len6  | len7
  | len8 (x : Nat)  | len9 (x : Nat)  | len10 (x : Nat)  | len11 (x : Nat)  | len12 (x : Nat)  | len13 (x : Nat)  | len14 (x : Nat)  | len15 (x : Nat)
  -- DIST.t (R73) with its extra bits y (R118)
  | dist0 (y : Nat)  | dist1 (y : Nat)  | dist2 (y : Nat)  | dist3 (y : Nat)  | dist4 (y : Nat)
  | dist5 (y : Nat)  | dist6 (y : Nat)  | dist7 (y : Nat)  | dist8 (y : Nat)  | dist9 (y : Nat)
  | dist10 (y : Nat)  | dist11 (y : Nat)  | dist12 (y : Nat)  | dist13 (y : Nat)  | dist14 (y : Nat)
  | dist15 (y : Nat)  | dist16 (y : Nat)  | dist17 (y : Nat)  | dist18 (y : Nat)  | dist19 (y : Nat)
  | dist20 (y : Nat)  | dist21 (y : Nat)  | dist22 (y : Nat)  | dist23 (y : Nat)  | dist24 (y : Nat)
  | dist25 (y : Nat)  | dist26 (y : Nat)  | dist27 (y : Nat)  | dist28 (y : Nat)  | dist29 (y : Nat)
  | dist30 (y : Nat)  | dist31 (y : Nat)  | dist32 (y : Nat)  | dist33 (y : Nat)  | dist34 (y : Nat)
  | dist35 (y : Nat)  | dist36 (y : Nat)  | dist37 (y : Nat)  | dist38 (y : Nat)  | dist39 (y : Nat)
  | dist40 (y : Nat)  | dist41 (y : Nat)  | dist42 (y : Nat)  | dist43 (y : Nat)  | dist44 (y : Nat)
  | dist45 (y : Nat)  | dist46 (y : Nat)  | dist47 (y : Nat)  | dist48 (y : Nat)  | dist49 (y : Nat)
  | dist50 (y : Nat)  | dist51 (y : Nat)  | dist52 (y : Nat)  | dist53 (y : Nat)  | dist54 (y : Nat)
  | dist55 (y : Nat)  | dist56 (y : Nat)  | dist57 (y : Nat)  | dist58 (y : Nat)  | dist59 (y : Nat)
  | dist60 (y : Nat)  | dist61 (y : Nat)  | dist62 (y : Nat)  | dist63 (y : Nat)
  -- LIT.c (R74)
  | lit0  | lit1  | lit2  | lit3  | lit4  | lit5  | lit6  | lit7  | lit8  | lit9
  | lit10  | lit11  | lit12  | lit13  | lit14  | lit15  | lit16  | lit17  | lit18  | lit19
  | lit20  | lit21  | lit22  | lit23  | lit24  | lit25  | lit26  | lit27  | lit28  | lit29
  | lit30  | lit31  | lit32  | lit33  | lit34  | lit35  | lit36  | lit37  | lit38  | lit39
  | lit40  | lit41  | lit42  | lit43  | lit44  | lit45  | lit46  | lit47  | lit48  | lit49
  | lit50  | lit51  | lit52  | lit53  | lit54  | lit55  | lit56  | lit57  | lit58  | lit59
  | lit60  | lit61  | lit62  | lit63  | lit64  | lit65  | lit66  | lit67  | lit68  | lit69
  | lit70  | lit71  | lit72  | lit73  | lit74  | lit75  | lit76  | lit77  | lit78  | lit79
  | lit80  | lit81  | lit82  | lit83  | lit84  | lit85  | lit86  | lit87  | lit88  | lit89
  | lit90  | lit91  | lit92  | lit93  | lit94  | lit95  | lit96  | lit97  | lit98  | lit99
  | lit100  | lit101  | lit102  | lit103  | lit104  | lit105  | lit106  | lit107  | lit108  | lit109
  | lit110  | lit111  | lit112  | lit113  | lit114  | lit115  | lit116  | lit117  | lit118  | lit119
  | lit120  | lit121  | lit122  | lit123  | lit124  | lit125  | lit126  | lit127  | lit128  | lit129
  | lit130  | lit131  | lit132  | lit133  | lit134  | lit135  | lit136  | lit137  | lit138  | lit139
  | lit140  | lit141  | lit142  | lit143  | lit144  | lit145  | lit146  | lit147  | lit148  | lit149
  | lit150  | lit151  | lit152  | lit153  | lit154  | lit155  | lit156  | lit157  | lit158  | lit159
  | lit160  | lit161  | lit162  | lit163  | lit164  | lit165  | lit166  | lit167  | lit168  | lit169
  | lit170  | lit171  | lit172  | lit173  | lit174  | lit175  | lit176  | lit177  | lit178  | lit179
  | lit180  | lit181  | lit182  | lit183  | lit184  | lit185  | lit186  | lit187  | lit188  | lit189
  | lit190  | lit191  | lit192  | lit193  | lit194  | lit195  | lit196  | lit197  | lit198  | lit199
  | lit200  | lit201  | lit202  | lit203  | lit204  | lit205  | lit206  | lit207  | lit208  | lit209
  | lit210  | lit211  | lit212  | lit213  | lit214  | lit215  | lit216  | lit217  | lit218  | lit219
  | lit220  | lit221  | lit222  | lit223  | lit224  | lit225  | lit226  | lit227  | lit228  | lit229
  | lit230  | lit231  | lit232  | lit233  | lit234  | lit235  | lit236  | lit237  | lit238  | lit239
  | lit240  | lit241  | lit242  | lit243  | lit244  | lit245  | lit246  | lit247  | lit248  | lit249
  | lit250  | lit251  | lit252  | lit253  | lit254  | lit255
deriving DecidableEq, Repr

/-- What an instruction is: the operation and its operands, with the 336 code rows gathered by table and symbol. -/
inductive Op where
  | hdr (L D : Byte)
  | littabFixed
  | ltp (l r : BitVec 4)
  | litRaw (c : Byte)
  | litCoded (c : Byte)
  | matchRef (s : Fin 16) (x : Nat) (t : Fin 64) (y : Nat)
  | endOfStream
  | len (s : Fin 16) (x : Nat)
  | dist (t : Fin 64) (y : Nat)
  | lit (c : Byte)
deriving DecidableEq, Repr

/-- The operation and operands of each row. -/
def Instr.op : Instr → Op
  | .hdr L D => .hdr L D
  | .hdrRaw4 => .hdr 0 4
  | .hdrRaw5 => .hdr 0 5
  | .hdrRaw6 => .hdr 0 6
  | .hdrCoded4 => .hdr 1 4
  | .hdrCoded5 => .hdr 1 5
  | .hdrCoded6 => .hdr 1 6
  | .littabFixed => .littabFixed
  | .ltp l r => .ltp l r
  | .litRaw c => .litRaw c
  | .litCoded c => .litCoded c
  | .matchRef s x t y => .matchRef s x t y
  | .endOfStream => .endOfStream
  | .len0 => .len 0 0  | .len1 => .len 1 0  | .len2 => .len 2 0  | .len3 => .len 3 0
  | .len4 => .len 4 0  | .len5 => .len 5 0  | .len6 => .len 6 0  | .len7 => .len 7 0
  | .len8 x => .len 8 x  | .len9 x => .len 9 x  | .len10 x => .len 10 x  | .len11 x => .len 11 x
  | .len12 x => .len 12 x  | .len13 x => .len 13 x  | .len14 x => .len 14 x  | .len15 x => .len 15 x
  | .dist0 y => .dist 0 y  | .dist1 y => .dist 1 y  | .dist2 y => .dist 2 y  | .dist3 y => .dist 3 y
  | .dist4 y => .dist 4 y  | .dist5 y => .dist 5 y  | .dist6 y => .dist 6 y  | .dist7 y => .dist 7 y
  | .dist8 y => .dist 8 y  | .dist9 y => .dist 9 y  | .dist10 y => .dist 10 y  | .dist11 y => .dist 11 y
  | .dist12 y => .dist 12 y  | .dist13 y => .dist 13 y  | .dist14 y => .dist 14 y  | .dist15 y => .dist 15 y
  | .dist16 y => .dist 16 y  | .dist17 y => .dist 17 y  | .dist18 y => .dist 18 y  | .dist19 y => .dist 19 y
  | .dist20 y => .dist 20 y  | .dist21 y => .dist 21 y  | .dist22 y => .dist 22 y  | .dist23 y => .dist 23 y
  | .dist24 y => .dist 24 y  | .dist25 y => .dist 25 y  | .dist26 y => .dist 26 y  | .dist27 y => .dist 27 y
  | .dist28 y => .dist 28 y  | .dist29 y => .dist 29 y  | .dist30 y => .dist 30 y  | .dist31 y => .dist 31 y
  | .dist32 y => .dist 32 y  | .dist33 y => .dist 33 y  | .dist34 y => .dist 34 y  | .dist35 y => .dist 35 y
  | .dist36 y => .dist 36 y  | .dist37 y => .dist 37 y  | .dist38 y => .dist 38 y  | .dist39 y => .dist 39 y
  | .dist40 y => .dist 40 y  | .dist41 y => .dist 41 y  | .dist42 y => .dist 42 y  | .dist43 y => .dist 43 y
  | .dist44 y => .dist 44 y  | .dist45 y => .dist 45 y  | .dist46 y => .dist 46 y  | .dist47 y => .dist 47 y
  | .dist48 y => .dist 48 y  | .dist49 y => .dist 49 y  | .dist50 y => .dist 50 y  | .dist51 y => .dist 51 y
  | .dist52 y => .dist 52 y  | .dist53 y => .dist 53 y  | .dist54 y => .dist 54 y  | .dist55 y => .dist 55 y
  | .dist56 y => .dist 56 y  | .dist57 y => .dist 57 y  | .dist58 y => .dist 58 y  | .dist59 y => .dist 59 y
  | .dist60 y => .dist 60 y  | .dist61 y => .dist 61 y  | .dist62 y => .dist 62 y  | .dist63 y => .dist 63 y
  | .lit0 => .lit 0  | .lit1 => .lit 1  | .lit2 => .lit 2  | .lit3 => .lit 3  | .lit4 => .lit 4  | .lit5 => .lit 5
  | .lit6 => .lit 6  | .lit7 => .lit 7  | .lit8 => .lit 8  | .lit9 => .lit 9  | .lit10 => .lit 10  | .lit11 => .lit 11
  | .lit12 => .lit 12  | .lit13 => .lit 13  | .lit14 => .lit 14  | .lit15 => .lit 15  | .lit16 => .lit 16  | .lit17 => .lit 17
  | .lit18 => .lit 18  | .lit19 => .lit 19  | .lit20 => .lit 20  | .lit21 => .lit 21  | .lit22 => .lit 22  | .lit23 => .lit 23
  | .lit24 => .lit 24  | .lit25 => .lit 25  | .lit26 => .lit 26  | .lit27 => .lit 27  | .lit28 => .lit 28  | .lit29 => .lit 29
  | .lit30 => .lit 30  | .lit31 => .lit 31  | .lit32 => .lit 32  | .lit33 => .lit 33  | .lit34 => .lit 34  | .lit35 => .lit 35
  | .lit36 => .lit 36  | .lit37 => .lit 37  | .lit38 => .lit 38  | .lit39 => .lit 39  | .lit40 => .lit 40  | .lit41 => .lit 41
  | .lit42 => .lit 42  | .lit43 => .lit 43  | .lit44 => .lit 44  | .lit45 => .lit 45  | .lit46 => .lit 46  | .lit47 => .lit 47
  | .lit48 => .lit 48  | .lit49 => .lit 49  | .lit50 => .lit 50  | .lit51 => .lit 51  | .lit52 => .lit 52  | .lit53 => .lit 53
  | .lit54 => .lit 54  | .lit55 => .lit 55  | .lit56 => .lit 56  | .lit57 => .lit 57  | .lit58 => .lit 58  | .lit59 => .lit 59
  | .lit60 => .lit 60  | .lit61 => .lit 61  | .lit62 => .lit 62  | .lit63 => .lit 63  | .lit64 => .lit 64  | .lit65 => .lit 65
  | .lit66 => .lit 66  | .lit67 => .lit 67  | .lit68 => .lit 68  | .lit69 => .lit 69  | .lit70 => .lit 70  | .lit71 => .lit 71
  | .lit72 => .lit 72  | .lit73 => .lit 73  | .lit74 => .lit 74  | .lit75 => .lit 75  | .lit76 => .lit 76  | .lit77 => .lit 77
  | .lit78 => .lit 78  | .lit79 => .lit 79  | .lit80 => .lit 80  | .lit81 => .lit 81  | .lit82 => .lit 82  | .lit83 => .lit 83
  | .lit84 => .lit 84  | .lit85 => .lit 85  | .lit86 => .lit 86  | .lit87 => .lit 87  | .lit88 => .lit 88  | .lit89 => .lit 89
  | .lit90 => .lit 90  | .lit91 => .lit 91  | .lit92 => .lit 92  | .lit93 => .lit 93  | .lit94 => .lit 94  | .lit95 => .lit 95
  | .lit96 => .lit 96  | .lit97 => .lit 97  | .lit98 => .lit 98  | .lit99 => .lit 99  | .lit100 => .lit 100  | .lit101 => .lit 101
  | .lit102 => .lit 102  | .lit103 => .lit 103  | .lit104 => .lit 104  | .lit105 => .lit 105  | .lit106 => .lit 106  | .lit107 => .lit 107
  | .lit108 => .lit 108  | .lit109 => .lit 109  | .lit110 => .lit 110  | .lit111 => .lit 111  | .lit112 => .lit 112  | .lit113 => .lit 113
  | .lit114 => .lit 114  | .lit115 => .lit 115  | .lit116 => .lit 116  | .lit117 => .lit 117  | .lit118 => .lit 118  | .lit119 => .lit 119
  | .lit120 => .lit 120  | .lit121 => .lit 121  | .lit122 => .lit 122  | .lit123 => .lit 123  | .lit124 => .lit 124  | .lit125 => .lit 125
  | .lit126 => .lit 126  | .lit127 => .lit 127  | .lit128 => .lit 128  | .lit129 => .lit 129  | .lit130 => .lit 130  | .lit131 => .lit 131
  | .lit132 => .lit 132  | .lit133 => .lit 133  | .lit134 => .lit 134  | .lit135 => .lit 135  | .lit136 => .lit 136  | .lit137 => .lit 137
  | .lit138 => .lit 138  | .lit139 => .lit 139  | .lit140 => .lit 140  | .lit141 => .lit 141  | .lit142 => .lit 142  | .lit143 => .lit 143
  | .lit144 => .lit 144  | .lit145 => .lit 145  | .lit146 => .lit 146  | .lit147 => .lit 147  | .lit148 => .lit 148  | .lit149 => .lit 149
  | .lit150 => .lit 150  | .lit151 => .lit 151  | .lit152 => .lit 152  | .lit153 => .lit 153  | .lit154 => .lit 154  | .lit155 => .lit 155
  | .lit156 => .lit 156  | .lit157 => .lit 157  | .lit158 => .lit 158  | .lit159 => .lit 159  | .lit160 => .lit 160  | .lit161 => .lit 161
  | .lit162 => .lit 162  | .lit163 => .lit 163  | .lit164 => .lit 164  | .lit165 => .lit 165  | .lit166 => .lit 166  | .lit167 => .lit 167
  | .lit168 => .lit 168  | .lit169 => .lit 169  | .lit170 => .lit 170  | .lit171 => .lit 171  | .lit172 => .lit 172  | .lit173 => .lit 173
  | .lit174 => .lit 174  | .lit175 => .lit 175  | .lit176 => .lit 176  | .lit177 => .lit 177  | .lit178 => .lit 178  | .lit179 => .lit 179
  | .lit180 => .lit 180  | .lit181 => .lit 181  | .lit182 => .lit 182  | .lit183 => .lit 183  | .lit184 => .lit 184  | .lit185 => .lit 185
  | .lit186 => .lit 186  | .lit187 => .lit 187  | .lit188 => .lit 188  | .lit189 => .lit 189  | .lit190 => .lit 190  | .lit191 => .lit 191
  | .lit192 => .lit 192  | .lit193 => .lit 193  | .lit194 => .lit 194  | .lit195 => .lit 195  | .lit196 => .lit 196  | .lit197 => .lit 197
  | .lit198 => .lit 198  | .lit199 => .lit 199  | .lit200 => .lit 200  | .lit201 => .lit 201  | .lit202 => .lit 202  | .lit203 => .lit 203
  | .lit204 => .lit 204  | .lit205 => .lit 205  | .lit206 => .lit 206  | .lit207 => .lit 207  | .lit208 => .lit 208  | .lit209 => .lit 209
  | .lit210 => .lit 210  | .lit211 => .lit 211  | .lit212 => .lit 212  | .lit213 => .lit 213  | .lit214 => .lit 214  | .lit215 => .lit 215
  | .lit216 => .lit 216  | .lit217 => .lit 217  | .lit218 => .lit 218  | .lit219 => .lit 219  | .lit220 => .lit 220  | .lit221 => .lit 221
  | .lit222 => .lit 222  | .lit223 => .lit 223  | .lit224 => .lit 224  | .lit225 => .lit 225  | .lit226 => .lit 226  | .lit227 => .lit 227
  | .lit228 => .lit 228  | .lit229 => .lit 229  | .lit230 => .lit 230  | .lit231 => .lit 231  | .lit232 => .lit 232  | .lit233 => .lit 233
  | .lit234 => .lit 234  | .lit235 => .lit 235  | .lit236 => .lit 236  | .lit237 => .lit 237  | .lit238 => .lit 238  | .lit239 => .lit 239
  | .lit240 => .lit 240  | .lit241 => .lit 241  | .lit242 => .lit 242  | .lit243 => .lit 243  | .lit244 => .lit 244  | .lit245 => .lit 245
  | .lit246 => .lit 246  | .lit247 => .lit 247  | .lit248 => .lit 248  | .lit249 => .lit 249  | .lit250 => .lit 250  | .lit251 => .lit 251
  | .lit252 => .lit 252  | .lit253 => .lit 253  | .lit254 => .lit 254  | .lit255 => .lit 255

end Sys2Proof
end

