-- ==== Sys2Proof/Decode.lean ====
section
/-! DEFINITION. The bit reader (40_bitreader.md), the canonical Huffman tables (41_huffman.md), the operand arithmetic a
decoder needs, the decoder (30_encoding.md) and, after it, the encoder. Everything here is a total function. -/

namespace Sys2Proof

/-! ## Fault kinds (R18, R127) and what a fault records (R129) -/

/-- `err`: the fault kind, `none` while no fault is recorded (R18, R127). -/
inductive ErrKind where
  | none
  | invalidHeader
  | invalidLiteralTable
  | invalidCode
  | invalidDistance
  | unexpectedEndOfInput
deriving DecidableEq, Repr

/-- Which of the engine's three Huffman tables (41_huffman.md). -/
inductive TableId where
  | literal
  | length
  | distance
deriving DecidableEq, Repr

/-- The `info` argument of `raise Fault` (R129, R130), one form per raising rule. Not visible in any register. -/
inductive Info where
  | none
  /-- R79: the bit that was asked for. -/
  | atBit (n : Nat)
  /-- R108: the two header bytes. -/
  | header (L D : Byte)
  /-- R88, R111: the number of code lengths assigned. -/
  | assigned (n : Nat)
  /-- R111: the lengths are over-subscribed. -/
  | overSubscribed
  /-- R86: the table and the number of bits read. -/
  | noCode (table : TableId) (bits : Nat)
  /-- R100: the distance and the bytes produced so far. -/
  | distance (distance produced : Nat)
deriving DecidableEq, Repr

/-! ## The fixed tables (R24) -/

/-- `LIT_ROM` (R89): the compact literal code-length table. -/
def litRom : List Nat :=
  [0x0B, 0x7C, 0x08, 0x07, 0x1C, 0x07, 0xBC, 0x0D, 0x4C, 0x04, 0x0A, 0x08, 0x0C, 0x0A,
   0x0C, 0x0A, 0x08, 0x17, 0x08, 0x09, 0x07, 0x06, 0x07, 0x08, 0x07, 0x06, 0x37, 0x08,
   0x17, 0x18, 0x0C, 0x0B, 0x07, 0x09, 0x0B, 0x0C, 0x06, 0x07, 0x16, 0x05, 0x07, 0x18,
   0x06, 0x0B, 0x09, 0x06, 0x07, 0x16, 0x07, 0x0B, 0x26, 0x07, 0x09, 0x08, 0x19, 0x0B] ++
  [0x08, 0x0B, 0x09, 0x0C, 0x08, 0x0C, 0x05, 0x26, 0x05, 0x26, 0x05, 0x0B, 0x07, 0x05,
   0x06, 0x15, 0x06, 0x0A, 0x35, 0x08, 0x07, 0x18, 0x0A, 0x1B, 0x2C, 0xFD, 0xFD, 0xFD,
   0xFC, 0xFC, 0xFC, 0x0D, 0x0C, 0x2D, 0x0C, 0x2D, 0x0C, 0x3D, 0x0C, 0x2D, 0x2C, 0xAD]

/-- `LEN_LEN` in compact form (R90). -/
def lenRom : List Nat := [0x02, 0x23, 0x24, 0x35, 0x26, 0x17]

/-- `DIST_LEN` in compact form (R91). -/
def distRom : List Nat := [0x02, 0x14, 0x35, 0xE6, 0xF7, 0x97, 0xF8]

/-- `LEN_BASE` (R92). -/
def lenBase (s : Fin 16) : Nat :=
  [3, 2, 4, 5, 6, 7, 8, 9, 10, 12, 16, 24, 40, 72, 136, 264].getD s.val 0

/-- `LEN_EXTRA` (R92). -/
def lenExtra (s : Fin 16) : Nat :=
  [0, 0, 0, 0, 0, 0, 0, 0, 1, 2, 3, 4, 5, 6, 7, 8].getD s.val 0

/-! ## Compact form (R88) -/

/-- The code lengths a run list stands for, before the count is checked (R88). -/
def runs (rom : List Nat) : List Nat :=
  rom.flatMap fun v => List.replicate (v / 16 + 1) (v % 16)

/-- `Expand(rom, n)` (R88): the lengths, or the number assigned when it is not `n`. -/
def expand (rom : List Nat) (n : Nat) : Except Nat (List Nat) :=
  if (runs rom).length = n then .ok (runs rom) else .error (runs rom).length

/-- The length code's lengths `LEN_LEN` (R90). -/
def lenLens : List Nat := runs lenRom

/-- The distance code's lengths `DIST_LEN` (R91). -/
def distLens : List Nat := runs distRom

/-- The fixed literal code's lengths (R89). -/
def litLensFixed : List Nat := runs litRom

/-! ## Canonical tables (R82 to R85). A table is its list of code lengths, by symbol. -/

namespace Huffman

/-- `count[L]` (R83). -/
def count (lens : List Nat) (L : Nat) : Nat := lens.count L

/-- `maxlen` (R83). -/
def maxlen (lens : List Nat) : Nat := lens.foldl max 0

/-- `first[L]` (R83, D9): the value of the first code of length `L`. -/
def first (lens : List Nat) : Nat → Nat
  | 0 => 0
  | 1 => 0
  | L + 2 => 2 * (first lens (L + 1) + count lens (L + 1))

/-- The symbols of code length `L`, in increasing order (R84). -/
def symbolsOfLength (lens : List Nat) (L : Nat) : List Nat :=
  lens.zipIdx.filterMap fun p => if p.1 = L then some p.2 else none

/-- `symbol[]` (R84): the symbols that have a code, sorted by code length, then by symbol. -/
def symbols (lens : List Nat) : List Nat :=
  (List.range 15).flatMap fun k => symbolsOfLength lens (k + 1)

/-- The code value of symbol `s` (R84): `first[L] + k`, where `k` earlier symbols have the same length `L`. -/
def codeValue (lens : List Nat) (s : Nat) : Nat :=
  first lens (lens.getD s 0) + (lens.take s).count (lens.getD s 0)

/-- The Kraft verdict's values (R85). -/
inductive Verdict where
  | over
  | complete
  | incomplete
deriving DecidableEq, Repr

/-- The loop of R85 over the lengths `L`, `L+1`, …: `left` is the number of free codes before length `L`. -/
def kraftFrom (lens : List Nat) : (n L left : Nat) → Verdict
  | 0, _, left => if left = 0 then .complete else .incomplete
  | n + 1, L, left => if 2 * left < count lens L then .over else kraftFrom lens n (L + 1) (2 * left - count lens L)

/-- `Kraft(len)` (R85). -/
def kraft (lens : List Nat) : Verdict := kraftFrom lens 15 1 1

end Huffman

/-! ## The bit reader (R76 to R80) -/

/-- The BitReader: its source, the input channel (R45), and the stream position (R19). The current byte's latch is
`src[bytePos]` (R77, log 13). -/
structure BitReader where
  /-- The bytes the input channel answers; past the last it answers `End` (R45, log 1). -/
  src : List Byte
  /-- `byte_pos` (R19). -/
  bytePos : Nat
  /-- `bit_pos` (R19, R78). -/
  bitPos : Fin 8
deriving DecidableEq, Repr

/-- The outcome of reading: a value, or a fault kind with what it records; either way the reader as it stands after the
last bit read (R130). -/
inductive Read (α : Type) where
  | ok (a : α) (r : BitReader)
  | bad (k : ErrKind) (info : Info) (r : BitReader)
deriving DecidableEq, Repr

/-- Read on with the value read, unless a fault was met. -/
def Read.bind {α β : Type} (m : Read α) (f : α → BitReader → Read β) : Read β :=
  match m with
  | .ok a r => f a r
  | .bad k info r => .bad k info r

/-- The value read, if any. -/
def Read.value? {α : Type} : Read α → Option α
  | .ok a _ => some a
  | .bad _ _ _ => none

/-- The reader as it stands. -/
def Read.reader {α : Type} : Read α → BitReader
  | .ok _ r => r
  | .bad _ _ r => r

namespace BitReader

/-- `IN_BITS` (R20): the number of bits consumed. -/
def inBits (r : BitReader) : Nat := 8 * r.bytePos + r.bitPos.val

/-- The input bytes requested so far (R45, R77): those whose first bit has been read. -/
def requested (r : BitReader) : Nat := if r.bitPos = 0 then r.bytePos else r.bytePos + 1

/-- The eight bits of a byte in stream order (R9). -/
def byteBits (v : Byte) : List Bit := (List.range 8).map fun i => v.getLsbD i

/-- The whole bit stream of a source (R9). -/
def streamBits (src : List Byte) : List Bit := src.flatMap byteBits

/-- The bits still to be read (R78). -/
def bits (r : BitReader) : List Bit := (streamBits r.src).drop r.inBits

/-- The position one bit on (R79). -/
def bump (r : BitReader) : BitReader :=
  if r.bitPos = 7 then { r with bytePos := r.bytePos + 1, bitPos := 0 }
  else { r with bitPos := r.bitPos + 1 }

/-- The position `n` bits on. -/
def advance (r : BitReader) : Nat → BitReader
  | 0 => r
  | n + 1 => r.bump.advance n

/-- `NextBit()` (R79). -/
def nextBit (r : BitReader) : Read Bit :=
  match r.src[r.bytePos]? with
  | none => .bad .unexpectedEndOfInput (.atBit r.inBits) r
  | some v => .ok (v.getLsbD r.bitPos.val) r.bump

/-- `NextBits(n)` (R80): the first bit read is bit 0. A fault leaves the bits read before it consumed. -/
def nextBits : Nat → BitReader → Read Nat
  | 0, r => .ok 0 r
  | n + 1, r => r.nextBit.bind fun b r => (nextBits n r).bind fun v r => .ok (b.toNat + 2 * v) r

end BitReader

/-! ## Huffman decode (R86) -/

/-- The loop of `HuffDecode` (R86): `n` more bits may be read, the next one is bit `L` of the code. `code`, `first` and
`index` are the values before that bit; the shift the spec makes at the end of an iteration is made here as the next
bit joins, so `code | (b XOR 1)` is `2 * code + (1 - b)`. -/
def huffLoop (table : TableId) (lens : List Nat) : (n L code first index : Nat) → BitReader → Read Nat
  | 0, _, _, _, _, r => .bad .invalidCode (.noCode table (Huffman.maxlen lens)) r
  | n + 1, L, code, first, index, r =>
    r.nextBit.bind fun b r =>
      let code := 2 * code + (1 - b.toNat)
      if code < first + Huffman.count lens L then
        .ok ((Huffman.symbols lens).getD (index + (code - first)) 0) r
      else
        huffLoop table lens n (L + 1) code (2 * (first + Huffman.count lens L)) (index + Huffman.count lens L) r

/-- `HuffDecode(T)` (R86). -/
def huffDecode (table : TableId) (lens : List Nat) (r : BitReader) : Read Nat :=
  huffLoop table lens (Huffman.maxlen lens) 1 0 0 0 r

/-! ## Operand arithmetic (R70, R71, R116 to R118) -/

/-- The match length of symbol `s` with extra bits `x` (R70, R116). -/
def matchLength (s : Fin 16) (x : Nat) : Nat := lenBase s + x

/-- The length value that is the terminator (R69, R117). -/
abbrev endLength : Nat := 519

/-- The number of distance extra bits (R68, R118). -/
def distExtra (length dict : Nat) : Nat := if length = 2 then 2 else dict

/-- The match distance of symbol `t` with `e` extra bits `y` (R71, R118). -/
def matchDistance (t : Fin 64) (e y : Nat) : Nat := t.val <<< e + y + 1

/-- The header check (R108): literal flag 0 or 1, dictionary field 4, 5 or 6. -/
def headerLegal (L D : Byte) : Bool := !(decide (1 < L.toNat) || decide (D.toNat < 4) || decide (6 < D.toNat))

/-! ## The decode context -/

/-- What the sequencer state says comes next in the stream (R59, R105, R112). -/
inductive Ctx where
  /-- Phase `HEADER`. -/
  | header
  /-- Phase `LITTAB`, `FIXED`: nothing is read. -/
  | fixedTable
  /-- Phase `LITTAB`, `STREAM`: a unit of the table. -/
  | tableUnit
  /-- Phase `TOKEN`: a token. `lits` is the literal table of a coded-literal stream, `none` when literals are raw. -/
  | token (lits : Option (List Nat)) (dict : Nat)
  /-- Inside a coded literal, after the control bit (log 6). -/
  | litCode (lits : List Nat)
  /-- Inside a match, after the control bit (log 6). -/
  | lenCode
  /-- Inside a match of this length, before its distance code (log 6). -/
  | distCode (length dict : Nat)
deriving DecidableEq, Repr

/-- The literal table of a context. -/
def Ctx.lits : Ctx → List Nat
  | .token (some lens) _ => lens
  | .litCode lens => lens
  | _ => []

/-! ## The rows of the code listings (R72 to R74) -/

/-- The row `LEN.s` (R72). -/
def Instr.ofLen (s : Fin 16) (x : Nat) : Instr :=
  match s.val with
  | 0 => .len0 | 1 => .len1 | 2 => .len2 | 3 => .len3 | 4 => .len4 | 5 => .len5 | 6 => .len6 | 7 => .len7
  | 8 => .len8 x | 9 => .len9 x | 10 => .len10 x | 11 => .len11 x | 12 => .len12 x | 13 => .len13 x
  | 14 => .len14 x
  | _ => .len15 x

/-- The rows `DIST.t` (R73), by symbol. -/
def distInstrs : List (Nat → Instr) :=
  List.flatten [
    [.dist0, .dist1, .dist2, .dist3, .dist4, .dist5, .dist6, .dist7],
    [.dist8, .dist9, .dist10, .dist11, .dist12, .dist13, .dist14, .dist15],
    [.dist16, .dist17, .dist18, .dist19, .dist20, .dist21, .dist22, .dist23],
    [.dist24, .dist25, .dist26, .dist27, .dist28, .dist29, .dist30, .dist31],
    [.dist32, .dist33, .dist34, .dist35, .dist36, .dist37, .dist38, .dist39],
    [.dist40, .dist41, .dist42, .dist43, .dist44, .dist45, .dist46, .dist47],
    [.dist48, .dist49, .dist50, .dist51, .dist52, .dist53, .dist54, .dist55],
    [.dist56, .dist57, .dist58, .dist59, .dist60, .dist61, .dist62, .dist63]]

/-- The row `DIST.t` (R73). There are 64 rows, so the default is never taken. -/
def Instr.ofDist (t : Fin 64) (y : Nat) : Instr := distInstrs.getD t.val Instr.dist0 y

/-- The rows `LIT.c` (R74), by byte. -/
def litInstrs : List Instr :=
  List.flatten [
    [.lit0, .lit1, .lit2, .lit3, .lit4, .lit5, .lit6, .lit7, .lit8, .lit9, .lit10, .lit11, .lit12, .lit13, .lit14, .lit15],
    [.lit16, .lit17, .lit18, .lit19, .lit20, .lit21, .lit22, .lit23, .lit24, .lit25, .lit26, .lit27, .lit28, .lit29, .lit30, .lit31],
    [.lit32, .lit33, .lit34, .lit35, .lit36, .lit37, .lit38, .lit39, .lit40, .lit41, .lit42, .lit43, .lit44, .lit45, .lit46, .lit47],
    [.lit48, .lit49, .lit50, .lit51, .lit52, .lit53, .lit54, .lit55, .lit56, .lit57, .lit58, .lit59, .lit60, .lit61, .lit62, .lit63],
    [.lit64, .lit65, .lit66, .lit67, .lit68, .lit69, .lit70, .lit71, .lit72, .lit73, .lit74, .lit75, .lit76, .lit77, .lit78, .lit79],
    [.lit80, .lit81, .lit82, .lit83, .lit84, .lit85, .lit86, .lit87, .lit88, .lit89, .lit90, .lit91, .lit92, .lit93, .lit94, .lit95],
    [.lit96, .lit97, .lit98, .lit99, .lit100, .lit101, .lit102, .lit103, .lit104, .lit105, .lit106, .lit107, .lit108, .lit109, .lit110, .lit111],
    [.lit112, .lit113, .lit114, .lit115, .lit116, .lit117, .lit118, .lit119, .lit120, .lit121, .lit122, .lit123, .lit124, .lit125, .lit126, .lit127],
    [.lit128, .lit129, .lit130, .lit131, .lit132, .lit133, .lit134, .lit135, .lit136, .lit137, .lit138, .lit139, .lit140, .lit141, .lit142, .lit143],
    [.lit144, .lit145, .lit146, .lit147, .lit148, .lit149, .lit150, .lit151, .lit152, .lit153, .lit154, .lit155, .lit156, .lit157, .lit158, .lit159],
    [.lit160, .lit161, .lit162, .lit163, .lit164, .lit165, .lit166, .lit167, .lit168, .lit169, .lit170, .lit171, .lit172, .lit173, .lit174, .lit175],
    [.lit176, .lit177, .lit178, .lit179, .lit180, .lit181, .lit182, .lit183, .lit184, .lit185, .lit186, .lit187, .lit188, .lit189, .lit190, .lit191],
    [.lit192, .lit193, .lit194, .lit195, .lit196, .lit197, .lit198, .lit199, .lit200, .lit201, .lit202, .lit203, .lit204, .lit205, .lit206, .lit207],
    [.lit208, .lit209, .lit210, .lit211, .lit212, .lit213, .lit214, .lit215, .lit216, .lit217, .lit218, .lit219, .lit220, .lit221, .lit222, .lit223],
    [.lit224, .lit225, .lit226, .lit227, .lit228, .lit229, .lit230, .lit231, .lit232, .lit233, .lit234, .lit235, .lit236, .lit237, .lit238, .lit239],
    [.lit240, .lit241, .lit242, .lit243, .lit244, .lit245, .lit246, .lit247, .lit248, .lit249, .lit250, .lit251, .lit252, .lit253, .lit254, .lit255]]

/-- The row `LIT.c` (R74). There are 256 rows, so the default is never taken. -/
def Instr.ofLit (c : Byte) : Instr := litInstrs.getD c.toNat .lit0

/-- The header row of two bytes: a legal header has its own row (R61, R63, log 12). -/
def Instr.ofHdr (L D : Byte) : Instr :=
  match L.toNat, D.toNat with
  | 0, 4 => .hdrRaw4
  | 0, 5 => .hdrRaw5
  | 0, 6 => .hdrRaw6
  | 1, 4 => .hdrCoded4
  | 1, 5 => .hdrCoded5
  | 1, 6 => .hdrCoded6
  | _, _ => .hdr L D

/-- The row an operation and its operands stand for. -/
def Instr.ofOp : Op → Instr
  | .hdr L D => .ofHdr L D
  | .littabFixed => .littabFixed
  | .ltp l r => .ltp l r
  | .litRaw c => .litRaw c
  | .litCoded c => .litCoded c
  | .matchRef s x t y => .matchRef s x t y
  | .endOfStream => .endOfStream
  | .len s x => .ofLen s x
  | .dist t y => .ofDist t y
  | .lit c => .ofLit c

/-! ## The decoder -/

/-- A length code and its extra bits (R115, R116). -/
def decodeLen (r : BitReader) : Read (Fin 16 × Nat) :=
  (huffDecode .length lenLens r).bind fun s r =>
    (BitReader.nextBits (lenExtra (Fin.ofNat 16 s)) r).bind fun x r => .ok (Fin.ofNat 16 s, x) r

/-- A distance code and its `e` extra bits (R118). -/
def decodeDist (e : Nat) (r : BitReader) : Read (Fin 64 × Nat) :=
  (huffDecode .distance distLens r).bind fun t r =>
    (BitReader.nextBits e r).bind fun y r => .ok (Fin.ofNat 64 t, y) r

/-- A symbol of the literal table (R114). -/
def decodeLit (lens : List Nat) (r : BitReader) : Read Byte :=
  (huffDecode .literal lens r).bind fun c r => .ok (BitVec.ofNat 8 c) r

/-- The match path after control bit 1 (R115 to R118, R120): the end test comes after the length's extra bits (R117). -/
def decodeMatch (dict : Nat) (r : BitReader) : Read Op :=
  (decodeLen r).bind fun p r =>
    if matchLength p.1 p.2 = endLength then .ok .endOfStream r
    else (decodeDist (distExtra (matchLength p.1 p.2) dict) r).bind fun q r => .ok (.matchRef p.1 p.2 q.1 q.2) r

/-- The operation the bits at the reader spell in a context (R59, R105, R112), or the fault met while reading it. -/
def decodeOp (c : Ctx) (r : BitReader) : Read Op :=
  match c with
  | .header =>
    (BitReader.nextBits 8 r).bind fun L r => (BitReader.nextBits 8 r).bind fun D r =>
      .ok (.hdr (BitVec.ofNat 8 L) (BitVec.ofNat 8 D)) r
  | .fixedTable => .ok .littabFixed r
  | .tableUnit =>
    (BitReader.nextBits 8 r).bind fun v r => .ok (.ltp (BitVec.ofNat 4 (v % 16)) (BitVec.ofNat 4 (v / 16))) r
  | .token lits dict =>
    r.nextBit.bind fun b r =>
      if b then decodeMatch dict r
      else match lits with
        | none => (BitReader.nextBits 8 r).bind fun v r => .ok (.litRaw (BitVec.ofNat 8 v)) r
        | some lens => (decodeLit lens r).bind fun v r => .ok (.litCoded v) r
  | .litCode lens => (decodeLit lens r).bind fun v r => .ok (.lit v) r
  | .lenCode => (decodeLen r).bind fun p r => .ok (.len p.1 p.2) r
  | .distCode length dict => (decodeDist (distExtra length dict) r).bind fun q r => .ok (.dist q.1 q.2) r

/-- The decoder: the instruction at the reader in a context. -/
def decode (c : Ctx) (r : BitReader) : Read Instr :=
  (decodeOp c r).bind fun op r => .ok (Instr.ofOp op) r

/-! ## The encoder -/

/-- A raw field of `n` bits in stream order (R41, R57). -/
def rawBits (n v : Nat) : List Bit := (List.range n).map fun i => v.testBit i

/-- The stream bits of symbol `s`'s code (R84, R86): most-significant bit first, each bit complemented. -/
def codeBits (lens : List Nat) (s : Nat) : List Bit :=
  (List.range (lens.getD s 0)).map fun i => !((Huffman.codeValue lens s).testBit (lens.getD s 0 - 1 - i))

/-- The stream bits of an operation in a context (R60, R65 to R69, R72 to R74). -/
def encodeOp (c : Ctx) : Op → List Bit
  | .hdr L D => rawBits 8 L.toNat ++ rawBits 8 D.toNat
  | .littabFixed => []
  | .ltp l r => rawBits 4 l.toNat ++ rawBits 4 r.toNat
  | .litRaw v => false :: rawBits 8 v.toNat
  | .litCoded v => false :: codeBits c.lits v.toNat
  | .matchRef s x t y =>
    true :: (codeBits lenLens s.val ++ rawBits (lenExtra s) x ++ codeBits distLens t.val ++
      rawBits (match c with | .token _ dict => distExtra (matchLength s x) dict | _ => 0) y)
  | .endOfStream => true :: (codeBits lenLens 15 ++ rawBits 8 255)
  | .len s x => codeBits lenLens s.val ++ rawBits (lenExtra s) x
  | .dist t y =>
    codeBits distLens t.val ++ rawBits (match c with | .distCode length dict => distExtra length dict | _ => 0) y
  | .lit v => codeBits c.lits v.toNat

/-- The encoder: the stream bits of an instruction in a context. -/
def encode (c : Ctx) (i : Instr) : List Bit := encodeOp c i.op

/-- The number of bits an operation consumes in a context (R58). -/
def opWidth (c : Ctx) : Op → Nat
  | .hdr _ _ => 16
  | .littabFixed => 0
  | .ltp _ _ => 8
  | .litRaw _ => 9
  | .litCoded v => 1 + c.lits.getD v.toNat 0
  | .matchRef s x t _ =>
    1 + lenLens.getD s.val 0 + lenExtra s + distLens.getD t.val 0 +
      (match c with | .token _ dict => distExtra (matchLength s x) dict | _ => 0)
  | .endOfStream => 16
  | .len s _ => lenLens.getD s.val 0 + lenExtra s
  | .dist t _ => distLens.getD t.val 0 + (match c with | .distCode length dict => distExtra length dict | _ => 0)
  | .lit v => c.lits.getD v.toNat 0

/-- Whether an operation and its operands can stand at a context (R59, R66 to R69): the operation belongs to the
context, its symbol has a code, and each raw field's value fits its width. -/
def opFits (c : Ctx) (op : Op) : Bool :=
  match c, op with
  | .header, .hdr _ _ => true
  | .fixedTable, .littabFixed => true
  | .tableUnit, .ltp _ _ => true
  | .token none _, .litRaw _ => true
  | .token (some lens) _, .litCoded v => lens.getD v.toNat 0 != 0
  | .token _ dict, .matchRef s x _ y =>
    decide (x < 2 ^ lenExtra s) && decide (matchLength s x ≠ endLength) &&
      decide (y < 2 ^ distExtra (matchLength s x) dict)
  | .token _ _, .endOfStream => true
  | .litCode lens, .lit v => lens.getD v.toNat 0 != 0
  | .lenCode, .len s x => decide (x < 2 ^ lenExtra s)
  | .distCode length dict, .dist _ y => decide (y < 2 ^ distExtra length dict)
  | _, _ => false

/-! ## Bytes of a bit string, and words numbered as spec/opcode_table.json numbers them -/

/-- A byte of eight bits in stream order (R9). -/
def byteOfBits (bs : List Bit) : Byte := BitVec.ofNat 8 (bs.foldr (fun b n => b.toNat + 2 * n) 0)

/-- A bit string packed LSB-first into bytes, the last one filled with 0 (R75); `n` is at least the number of bytes. -/
def packBits : (n : Nat) → List Bit → List Byte
  | 0, _ => []
  | _, [] => []
  | n + 1, bs => byteOfBits (bs.take 8) :: packBits n (bs.drop 8)

/-- A reader at the start of a bit string. -/
def readerOf (bs : List Bit) : BitReader := ⟨packBits bs.length bs, 0, 0⟩

/-- The bits of a code row of `n` bits: the table writes such a row as a string of stream bits, first read leftmost
(R57), and numbers it as that string read as a binary number, so the first stream bit is the number's highest (log 16). -/
def patternBits (n w : Nat) : List Bit := (List.range n).map fun i => w.testBit (n - 1 - i)

/-- Whether a bit string is exactly one code of a table. -/
def isCode (table : TableId) (lens : List Nat) (bs : List Bit) : Bool :=
  match huffDecode table lens (readerOf bs) with
  | .ok _ r => r.inBits == bs.length
  | .bad _ _ _ => false

/-- The context in which a table word stands, and its stream bits (log 16): 16 bits are a header or `END`, fewer are one
code of the literal, distance or length table, and 8 bits that are no code are a table unit. -/
def tableCtx (nbits w : Nat) : Option (Ctx × List Bit) :=
  if nbits = 16 then
    if w = 0xFF01 then some (.token none 4, rawBits 16 w) else some (.header, rawBits 16 w)
  else if isCode .literal litLensFixed (patternBits nbits w) then some (.litCode litLensFixed, patternBits nbits w)
  else if isCode .distance distLens (patternBits nbits w) then some (.distCode 3 4, patternBits nbits w)
  else if isCode .length lenLens (patternBits nbits w) then some (.lenCode, patternBits nbits w)
  else if nbits = 8 then some (.tableUnit, rawBits 8 w)
  else none

/-- The instruction the decoder reads from a table word, every bit above it 0 (log 16). -/
def decodeTableWord (nbits w : Nat) : Option Instr :=
  match tableCtx nbits w with
  | some (c, bs) => (decode c (readerOf (bs ++ List.replicate 32 false))).value?
  | none => none

end Sys2Proof
end

