-- ==== Sys2Proof/WellFormed.lean ====
section
/-! DEFINITION. When an instruction is well formed: it is the canonical row of its operation, and it can stand at the
decode context it is used in. -/

namespace Sys2Proof

/-- The instruction is the row that spells its operation: `hdr` holds only headers without a row of their own (log 12),
and a symbol without extra bits has none. -/
def Instr.canonical (i : Instr) : Bool := Instr.ofOp i.op == i

/-- Well-formedness at a decode context (R62, R66 to R69). -/
def Instr.wf (c : Ctx) (i : Instr) : Bool := i.canonical && opFits c i.op

/-- A code-length list the engine accepts as a literal table: 256 lengths of 0 to 15, not over-subscribed (R82, R85). -/
def literalTableWf (lens : List Nat) : Bool :=
  lens.length == 256 && lens.all (· < 16) && (Huffman.kraft lens != .over)

/-- A decode context the sequencer can form: an accepted literal table (R85), a legal dictionary field (R63) and a match
length (R70). -/
def Ctx.wf : Ctx → Bool
  | .token lits dict => (4 ≤ dict && dict ≤ 6) && (match lits with | none => true | some lens => literalTableWf lens)
  | .litCode lens => literalTableWf lens
  | .distCode length dict => (4 ≤ dict && dict ≤ 6) && (2 ≤ length && length < endLength)
  | _ => true

end Sys2Proof
end

