-- ==== Sys2Proof/Machine/State.lean ====
section
/-! DEFINITION. The engine's state (R16), the reasons a step can stop, and the state after reset (R37). -/

namespace Sys2Proof.Machine

/-- The sequencer states (R17). -/
inductive Phase where
  | header
  | littab
  | token
  | done
  | fault
deriving DecidableEq, Repr

/-- The MODEL's own sequencer field: which field of an operation in progress comes next. It is `none` between the
spec's atomic steps (R106); the other values are the field boundaries inside an operation, at which the table's code rows
and table units run one at a time. DESIGN CHOICE (log 6). -/
inductive Field where
  | none
  /-- Inside `LITTAB_STREAM`: an `LTP` unit (R111). -/
  | unit
  /-- Inside `LIT_CODED`: its literal code (R114). -/
  | lit
  /-- Inside `MATCH` or `END`: its length code (R115). -/
  | len
  /-- Inside a `MATCH` of this length: its distance code (R118). -/
  | dist (length : Nat)
deriving DecidableEq, Repr

/-- A storage of numbered cells: the written cells, by strictly rising number. A cell that is not listed has not been
written since reset and has no value (R39, log 4, log 5). -/
abbrev Cells (α : Type) := List (Nat × α)

/-- The engine's state. -/
structure State where
  /-- `phase` (R17). -/
  phase : Phase
  /-- `err` (R18). -/
  err : ErrKind
  /-- What the fault recorded (R129, log 14). -/
  info : Info
  /-- The BitReader: `byte_pos`, `bit_pos` (R19) and the input channel `src` (R45, log 1). -/
  reader : BitReader
  /-- `lit_coded` (R21). -/
  litCoded : Bool
  /-- `dict` (R22). -/
  dict : BitVec 3
  /-- `lit_len` (R23): 256 cells of 4 bits. -/
  litLen : Cells (BitVec 4)
  /-- `lt_n` (R30). -/
  ltN : Nat
  /-- `win` (R26): 4096 cells of 8 bits. -/
  win : Cells Byte
  /-- `out` (R29): the bytes emitted since reset, in emission order. -/
  out : List Byte
  /-- The parameter `LIT_TABLE_SOURCE` (R3, R16); no step writes it (log 2). -/
  litSrc : LitTableSource
  /-- The MODEL's own sequencer field (log 6). -/
  field : Field
deriving DecidableEq, Repr

/-- Why the machine takes no step. None of these is one of the spec's five fault kinds, which are next states (R104). -/
inductive Fault where
  /-- Raised by `step` and `exec` in phase `DONE`: the engine has no step (R104, R124). Safe: the spec's own final state. -/
  | runDone
  /-- Raised by `step` and `exec` in phase `FAULT`: the engine has no step (R104, R125). Safe: the spec's own end. -/
  | runFaulted
  /-- Raised by `exec` of an instruction that cannot stand at the state's decode context (R105, R112). Safe: `step` never
  runs one (log 11). -/
  | notDispatched
  /-- Raised by a match copy that reads a window cell not written since reset (R39). Safe: no run does (R102, log 4). -/
  | windowUnwritten
  /-- Raised by a literal decode, or a Kraft check, while a cell of `lit_len` is not written since reset (R39). Safe: no
  run does (R23, log 5). -/
  | litLenUnwritten
  /-- Raised by `step` and `exec` in a state whose `field` belongs to another phase. Safe: no run reaches one (log 11). -/
  | sequencerBroken
deriving DecidableEq, Repr

/-- The machine has no refusal outcome (R104). -/
inductive Refusal where
  /-- Raised by an arm of `exec` for an instruction without a meaning; no arm does. Safe. -/
  | notModelled (mnemonic : String)
deriving DecidableEq, Repr

/-- The state after reset (R37, R146), on this hardware (R3), with nothing on the input channel (log 1). -/
def State.reset : State where
  phase := .header
  err := .none
  info := .none
  reader := ⟨[], 0, 0⟩
  litCoded := false
  dict := 0
  litLen := []
  ltN := 0
  win := []
  out := []
  litSrc := Config.litTableSource
  field := .none

end Sys2Proof.Machine
end

