-- ==== Sys2Proof/Machine/Ops.lean ====
section
/-! DEFINITION. The operations over the engine's storage that its rules are written in: cells, the window and the output
(42_window.md), the stream position, the literal table (R23), and raising a fault (R130). -/

namespace Sys2Proof.Machine

/-! ## Cells -/

/-- The value of a cell, if it has been written. -/
def Cells.read {α : Type} : Cells α → Nat → Option α
  | [], _ => none
  | c :: cs, a => if c.1 = a then some c.2 else Cells.read cs a

/-- Write a cell, keeping the numbers strictly rising. -/
def Cells.write {α : Type} : Cells α → Nat → α → Cells α
  | [], a, v => [(a, v)]
  | c :: cs, a, v =>
    if a < c.1 then (a, v) :: c :: cs
    else if a = c.1 then (a, v) :: cs
    else c :: Cells.write cs a v

/-- The canonical form: the cell numbers rise strictly and lie below the size of the storage. -/
abbrev Cells.wf {α : Type} (size : Nat) (m : Cells α) : Prop :=
  (m.map Prod.fst).Pairwise (· < ·) ∧ ∀ c ∈ m, c.1 < size

namespace State

/-! ## Functions of the state (log 13) -/

/-- `produced` (R27). -/
def produced (s : State) : Nat := s.out.length

/-- `fill` (R28). -/
def fill (s : State) : Nat := min s.produced 4096

/-- `IN_BITS` (R20). -/
def inBits (s : State) : Nat := s.reader.inBits

/-- `CAP` (R97). -/
def capacity (s : State) : Nat := 64 <<< s.dict.toNat

/-! ## Stream position -/

/-- Move the stream position past `n` bits (R19). -/
def advance (n : Nat) (s : State) : State := { s with reader := s.reader.advance n }

/-! ## Raising a fault -/

/-- `raise Fault(kind, info)` (R130): the operation in progress ends here; everything written before stays. -/
def raise (k : ErrKind) (info : Info) (s : State) : State :=
  { s with err := k, phase := .fault, info := info, field := .none }

/-! ## Window and output -/

/-- `MemRead(a, 1)` (R96); `none` for a cell not written since reset (R39). -/
def memRead (a : Nat) (s : State) : Option Byte := s.win.read a

/-- `MemWrite(a, 1, v)` (R96). -/
def memWrite (a : Nat) (v : Byte) (s : State) : State := { s with win := s.win.write a v }

/-- `Emit(b)` (R98): the window index is taken from `produced` before the increment. -/
def emit (b : Byte) (s : State) : State :=
  { s.memWrite (s.produced % Config.winPhys) b with out := s.out ++ [b] }

/-- The copy loop of `CopyBack` (R99): one byte is read and emitted before the next is read; `none` when it reads a cell
not written since reset. -/
def copyBytes (distance : Nat) : (length : Nat) → State → Option State
  | 0, s => some s
  | n + 1, s =>
    match s.memRead ((s.produced - distance) % Config.winPhys) with
    | none => none
    | some b => copyBytes distance n (s.emit b)

/-- `CopyBack(distance, length)` (R99): `CheckDistance` (R100) first, then the copy. -/
def copyBack (distance length : Nat) (s : State) : Host.Outcome State Fault Refusal :=
  if s.produced < distance then .next (s.raise .invalidDistance (.distance distance s.produced))
  else
    match s.copyBytes distance length with
    | some t => .next t
    | none => .fault .windowUnwritten

/-! ## Literal table -/

/-- The 256 code lengths of `lit_len`, when all of them have been written (R23). -/
def litLens (s : State) : Option (List Nat) :=
  if s.litLen.map Prod.fst = List.range 256 then some (s.litLen.map fun c => c.2.toNat) else none

/-- `lit_len <- lens` (R110). -/
def loadLitLen (lens : List Nat) (s : State) : State :=
  { s with litLen := lens.zipIdx.map fun p => (p.2, BitVec.ofNat 4 p.1) }

/-- The inner loop of `LITTAB_STREAM` (R111): the next `n` symbols get length `l`; past symbol 255 only the count moves. -/
def assignLens (l : BitVec 4) : (n : Nat) → State → State
  | 0, s => s
  | n + 1, s =>
    assignLens l n
      { s with
        litLen := if s.ltN < 256 then s.litLen.write s.ltN l else s.litLen
        ltN := s.ltN + 1 }

/-- `LITTAB_STREAM` before its loop (R111): `lt_n <- 0`. -/
def openTable (s : State) : State := { s with ltN := 0, field := .unit }

/-- `LITTAB_STREAM` after a unit (R111): read on below 256 symbols; otherwise the overshoot check, then the Kraft check
(R133), then phase `TOKEN`. -/
def closeTable (s : State) : Host.Outcome State Fault Refusal :=
  if s.ltN < 256 then .next s
  else if s.ltN ≠ 256 then .next (s.raise .invalidLiteralTable (.assigned s.ltN))
  else
    match s.litLens with
    | none => .fault .litLenUnwritten
    | some lens =>
      if Huffman.kraft lens = .over then .next (s.raise .invalidLiteralTable .overSubscribed)
      else .next { s with phase := .token, field := .none }

/-! ## Ends of a run -/

/-- `END` (R123). -/
def endStream (s : State) : State := { s with phase := .done, field := .none }

end State

end Sys2Proof.Machine
end

