-- ==== Sys2Proof/Machine/Operands.lean ====
section
/-! DEFINITION. What the sequencer expects next (R105, R112) and the form every meaning has: an instruction runs where it
can stand, consumes its bits, and then has its effect. -/

namespace Sys2Proof.Machine

/-- What comes next: a decode context, or the reason there is no step. -/
inductive Expect where
  | ctx (c : Ctx)
  | stop (f : Fault)
deriving DecidableEq, Repr

namespace State

/-- The state is at the start of a transmitted literal table (R105, R111): one step reads the whole table. -/
def atTable (s : State) : Bool := s.phase == .littab && s.field == .none && s.litSrc == .stream

/-- What a coded literal's context is: it needs the literal table (R114). -/
def withLits (s : State) (k : List Nat → Ctx) : Expect :=
  match s.litLens with
  | some lens => .ctx (k lens)
  | none => .stop .litLenUnwritten

/-- The dispatch by phase (R105) and, within phase `TOKEN`, by `lit_coded` (R112). -/
def expects (s : State) : Expect :=
  match s.phase, s.field with
  | .done, _ => .stop .runDone
  | .fault, _ => .stop .runFaulted
  | .header, .none => .ctx .header
  | .littab, .none =>
    match s.litSrc with
    | .fixed => .ctx .fixedTable
    | .stream => .stop .notDispatched
  | .littab, .unit => .ctx .tableUnit
  | .token, .none =>
    if s.litCoded then s.withLits fun lens => .token (some lens) s.dict.toNat
    else .ctx (.token none s.dict.toNat)
  | .token, .lit => s.withLits fun lens => .litCode lens
  | .token, .len => .ctx .lenCode
  | .token, .dist length => .ctx (.distCode length s.dict.toNat)
  | _, _ => .stop .sequencerBroken

end State

/-- Run an operation's effect `k` on the state whose position has moved past the operation's bits (R58), if the operation
can stand at the state's decode context; `k` is also given that context. -/
def runWhen (op : Op) (s : State) (k : Ctx → State → Host.Outcome State Fault Refusal) :
    Host.Outcome State Fault Refusal :=
  match s.expects with
  | .stop f => .fault f
  | .ctx c => if opFits c op then k c (s.advance (opWidth c op)) else .fault .notDispatched

end Sys2Proof.Machine
end

