-- ==== Sys2Proof/Machine/Token.lean ====
section
/-! DEFINITION. The tokens (R112 to R123), and the shared meanings of the code rows `LIT.c`, `LEN.s` and `DIST.t`, which
are the same operations at field granularity (log 6, log 7). -/

namespace Sys2Proof.Machine

/-- `LIT_RAW` (R113). -/
def execLitRaw (c : Byte) (s : State) : Host.Outcome State Fault Refusal :=
  runWhen (.litRaw c) s fun _ s => .next (s.emit c)

/-- `LIT_CODED` (R114). -/
def execLitCoded (c : Byte) (s : State) : Host.Outcome State Fault Refusal :=
  runWhen (.litCoded c) s fun _ s => .next (s.emit c)

/-- `MATCH` (R116, R118 to R120). -/
def execMatchRef (sym : Fin 16) (x : Nat) (t : Fin 64) (y : Nat) (s : State) : Host.Outcome State Fault Refusal :=
  runWhen (.matchRef sym x t y) s fun _ s =>
    s.copyBack (matchDistance t (distExtra (matchLength sym x) s.dict.toNat) y) (matchLength sym x)

/-- `END` (R123). -/
def execEndOfStream (s : State) : Host.Outcome State Fault Refusal :=
  runWhen .endOfStream s fun _ s => .next s.endStream

/-- A literal code inside a coded literal (R114): the literal is emitted and the token ends. -/
def runLit (c : Byte) (s : State) : Host.Outcome State Fault Refusal :=
  runWhen (.lit c) s fun _ s => .next { s.emit c with field := .none }

/-- A length code and its extra bits inside a match or terminator (R115 to R117): the end test comes after the extra
bits; otherwise the distance code is next. -/
def runLen (sym : Fin 16) (x : Nat) (s : State) : Host.Outcome State Fault Refusal :=
  runWhen (.len sym x) s fun _ s =>
    .next (if matchLength sym x = endLength then s.endStream else { s with field := .dist (matchLength sym x) })

/-- A distance code and its extra bits inside a match of the length the context holds (R118, R119): the copy, and the
token ends. -/
def runDist (t : Fin 64) (y : Nat) (s : State) : Host.Outcome State Fault Refusal :=
  runWhen (.dist t y) s fun c s =>
    match c with
    | .distCode length dict => State.copyBack (matchDistance t (distExtra length dict) y) length { s with field := .none }
    | _ => .fault .sequencerBroken

end Sys2Proof.Machine
end

