-- ==== Sys2Proof/Machine/DistCodes.lean ====
section
/-! DEFINITION. The 64 distance codes `DIST.t` (R73): one meaning each over the shared `runDist` (R118, R119).
`y` is the value of the distance's extra bits (R118). -/

namespace Sys2Proof.Machine

def execDist0 (y : Nat) (s : State) : Host.Outcome State Fault Refusal := runDist 0 y s
def execDist1 (y : Nat) (s : State) : Host.Outcome State Fault Refusal := runDist 1 y s
def execDist2 (y : Nat) (s : State) : Host.Outcome State Fault Refusal := runDist 2 y s
def execDist3 (y : Nat) (s : State) : Host.Outcome State Fault Refusal := runDist 3 y s
def execDist4 (y : Nat) (s : State) : Host.Outcome State Fault Refusal := runDist 4 y s
def execDist5 (y : Nat) (s : State) : Host.Outcome State Fault Refusal := runDist 5 y s
def execDist6 (y : Nat) (s : State) : Host.Outcome State Fault Refusal := runDist 6 y s
def execDist7 (y : Nat) (s : State) : Host.Outcome State Fault Refusal := runDist 7 y s
def execDist8 (y : Nat) (s : State) : Host.Outcome State Fault Refusal := runDist 8 y s
def execDist9 (y : Nat) (s : State) : Host.Outcome State Fault Refusal := runDist 9 y s
def execDist10 (y : Nat) (s : State) : Host.Outcome State Fault Refusal := runDist 10 y s
def execDist11 (y : Nat) (s : State) : Host.Outcome State Fault Refusal := runDist 11 y s
def execDist12 (y : Nat) (s : State) : Host.Outcome State Fault Refusal := runDist 12 y s
def execDist13 (y : Nat) (s : State) : Host.Outcome State Fault Refusal := runDist 13 y s
def execDist14 (y : Nat) (s : State) : Host.Outcome State Fault Refusal := runDist 14 y s
def execDist15 (y : Nat) (s : State) : Host.Outcome State Fault Refusal := runDist 15 y s
def execDist16 (y : Nat) (s : State) : Host.Outcome State Fault Refusal := runDist 16 y s
def execDist17 (y : Nat) (s : State) : Host.Outcome State Fault Refusal := runDist 17 y s
def execDist18 (y : Nat) (s : State) : Host.Outcome State Fault Refusal := runDist 18 y s
def execDist19 (y : Nat) (s : State) : Host.Outcome State Fault Refusal := runDist 19 y s
def execDist20 (y : Nat) (s : State) : Host.Outcome State Fault Refusal := runDist 20 y s
def execDist21 (y : Nat) (s : State) : Host.Outcome State Fault Refusal := runDist 21 y s
def execDist22 (y : Nat) (s : State) : Host.Outcome State Fault Refusal := runDist 22 y s
def execDist23 (y : Nat) (s : State) : Host.Outcome State Fault Refusal := runDist 23 y s
def execDist24 (y : Nat) (s : State) : Host.Outcome State Fault Refusal := runDist 24 y s
def execDist25 (y : Nat) (s : State) : Host.Outcome State Fault Refusal := runDist 25 y s
def execDist26 (y : Nat) (s : State) : Host.Outcome State Fault Refusal := runDist 26 y s
def execDist27 (y : Nat) (s : State) : Host.Outcome State Fault Refusal := runDist 27 y s
def execDist28 (y : Nat) (s : State) : Host.Outcome State Fault Refusal := runDist 28 y s
def execDist29 (y : Nat) (s : State) : Host.Outcome State Fault Refusal := runDist 29 y s
def execDist30 (y : Nat) (s : State) : Host.Outcome State Fault Refusal := runDist 30 y s
def execDist31 (y : Nat) (s : State) : Host.Outcome State Fault Refusal := runDist 31 y s
def execDist32 (y : Nat) (s : State) : Host.Outcome State Fault Refusal := runDist 32 y s
def execDist33 (y : Nat) (s : State) : Host.Outcome State Fault Refusal := runDist 33 y s
def execDist34 (y : Nat) (s : State) : Host.Outcome State Fault Refusal := runDist 34 y s
def execDist35 (y : Nat) (s : State) : Host.Outcome State Fault Refusal := runDist 35 y s
def execDist36 (y : Nat) (s : State) : Host.Outcome State Fault Refusal := runDist 36 y s
def execDist37 (y : Nat) (s : State) : Host.Outcome State Fault Refusal := runDist 37 y s
def execDist38 (y : Nat) (s : State) : Host.Outcome State Fault Refusal := runDist 38 y s
def execDist39 (y : Nat) (s : State) : Host.Outcome State Fault Refusal := runDist 39 y s
def execDist40 (y : Nat) (s : State) : Host.Outcome State Fault Refusal := runDist 40 y s
def execDist41 (y : Nat) (s : State) : Host.Outcome State Fault Refusal := runDist 41 y s
def execDist42 (y : Nat) (s : State) : Host.Outcome State Fault Refusal := runDist 42 y s
def execDist43 (y : Nat) (s : State) : Host.Outcome State Fault Refusal := runDist 43 y s
def execDist44 (y : Nat) (s : State) : Host.Outcome State Fault Refusal := runDist 44 y s
def execDist45 (y : Nat) (s : State) : Host.Outcome State Fault Refusal := runDist 45 y s
def execDist46 (y : Nat) (s : State) : Host.Outcome State Fault Refusal := runDist 46 y s
def execDist47 (y : Nat) (s : State) : Host.Outcome State Fault Refusal := runDist 47 y s
def execDist48 (y : Nat) (s : State) : Host.Outcome State Fault Refusal := runDist 48 y s
def execDist49 (y : Nat) (s : State) : Host.Outcome State Fault Refusal := runDist 49 y s
def execDist50 (y : Nat) (s : State) : Host.Outcome State Fault Refusal := runDist 50 y s
def execDist51 (y : Nat) (s : State) : Host.Outcome State Fault Refusal := runDist 51 y s
def execDist52 (y : Nat) (s : State) : Host.Outcome State Fault Refusal := runDist 52 y s
def execDist53 (y : Nat) (s : State) : Host.Outcome State Fault Refusal := runDist 53 y s
def execDist54 (y : Nat) (s : State) : Host.Outcome State Fault Refusal := runDist 54 y s
def execDist55 (y : Nat) (s : State) : Host.Outcome State Fault Refusal := runDist 55 y s
def execDist56 (y : Nat) (s : State) : Host.Outcome State Fault Refusal := runDist 56 y s
def execDist57 (y : Nat) (s : State) : Host.Outcome State Fault Refusal := runDist 57 y s
def execDist58 (y : Nat) (s : State) : Host.Outcome State Fault Refusal := runDist 58 y s
def execDist59 (y : Nat) (s : State) : Host.Outcome State Fault Refusal := runDist 59 y s
def execDist60 (y : Nat) (s : State) : Host.Outcome State Fault Refusal := runDist 60 y s
def execDist61 (y : Nat) (s : State) : Host.Outcome State Fault Refusal := runDist 61 y s
def execDist62 (y : Nat) (s : State) : Host.Outcome State Fault Refusal := runDist 62 y s
def execDist63 (y : Nat) (s : State) : Host.Outcome State Fault Refusal := runDist 63 y s

end Sys2Proof.Machine
end

