-- ==== Sys2Proof/Machine/Header.lean ====
section
/-! DEFINITION. The header rows (R107, R108): `HDR` and the six legal header values. -/

namespace Sys2Proof.Machine

/-- The effect of `HDR` once both bytes are read (R107, R108). -/
def headerEffect (L D : Byte) (s : State) : State :=
  if headerLegal L D then
    { s with
      litCoded := decide (L = 1)
      dict := D.setWidth 3
      phase := if L = 1 then .littab else .token }
  else s.raise .invalidHeader (.header L D)

/-- `HDR` on its two bytes (R108). -/
def runHdr (L D : Byte) (s : State) : Host.Outcome State Fault Refusal :=
  runWhen (.hdr L D) s fun _ s => .next (headerEffect L D s)

def execHdr (L D : Byte) (s : State) : Host.Outcome State Fault Refusal := runHdr L D s
def execHdrRaw4 (s : State) : Host.Outcome State Fault Refusal := runHdr 0 4 s
def execHdrRaw5 (s : State) : Host.Outcome State Fault Refusal := runHdr 0 5 s
def execHdrRaw6 (s : State) : Host.Outcome State Fault Refusal := runHdr 0 6 s
def execHdrCoded4 (s : State) : Host.Outcome State Fault Refusal := runHdr 1 4 s
def execHdrCoded5 (s : State) : Host.Outcome State Fault Refusal := runHdr 1 5 s
def execHdrCoded6 (s : State) : Host.Outcome State Fault Refusal := runHdr 1 6 s

end Sys2Proof.Machine
end

