-- ==== Sys2Proof/Machine/LenCodes.lean ====
section
/-! DEFINITION. The 16 length codes `LEN.s` (R72): one meaning each over the shared `runLen` (R115 to R117).
`x` is the value of the symbol's `LEN_EXTRA[s]` extra bits (R116). -/

namespace Sys2Proof.Machine

def execLen0 (s : State) : Host.Outcome State Fault Refusal := runLen 0 0 s
def execLen1 (s : State) : Host.Outcome State Fault Refusal := runLen 1 0 s
def execLen2 (s : State) : Host.Outcome State Fault Refusal := runLen 2 0 s
def execLen3 (s : State) : Host.Outcome State Fault Refusal := runLen 3 0 s
def execLen4 (s : State) : Host.Outcome State Fault Refusal := runLen 4 0 s
def execLen5 (s : State) : Host.Outcome State Fault Refusal := runLen 5 0 s
def execLen6 (s : State) : Host.Outcome State Fault Refusal := runLen 6 0 s
def execLen7 (s : State) : Host.Outcome State Fault Refusal := runLen 7 0 s
def execLen8 (x : Nat) (s : State) : Host.Outcome State Fault Refusal := runLen 8 x s
def execLen9 (x : Nat) (s : State) : Host.Outcome State Fault Refusal := runLen 9 x s
def execLen10 (x : Nat) (s : State) : Host.Outcome State Fault Refusal := runLen 10 x s
def execLen11 (x : Nat) (s : State) : Host.Outcome State Fault Refusal := runLen 11 x s
def execLen12 (x : Nat) (s : State) : Host.Outcome State Fault Refusal := runLen 12 x s
def execLen13 (x : Nat) (s : State) : Host.Outcome State Fault Refusal := runLen 13 x s
def execLen14 (x : Nat) (s : State) : Host.Outcome State Fault Refusal := runLen 14 x s
def execLen15 (x : Nat) (s : State) : Host.Outcome State Fault Refusal := runLen 15 x s

end Sys2Proof.Machine
end

