-- ==== Sys2Proof/Machine/LitCodes.lean ====
section
/-! DEFINITION. The 256 literal codes `LIT.c` (R74): one meaning each over the shared `runLit` (R114). -/

namespace Sys2Proof.Machine

def execLit0 (s : State) : Host.Outcome State Fault Refusal := runLit 0 s
def execLit1 (s : State) : Host.Outcome State Fault Refusal := runLit 1 s
def execLit2 (s : State) : Host.Outcome State Fault Refusal := runLit 2 s
def execLit3 (s : State) : Host.Outcome State Fault Refusal := runLit 3 s
def execLit4 (s : State) : Host.Outcome State Fault Refusal := runLit 4 s
def execLit5 (s : State) : Host.Outcome State Fault Refusal := runLit 5 s
def execLit6 (s : State) : Host.Outcome State Fault Refusal := runLit 6 s
def execLit7 (s : State) : Host.Outcome State Fault Refusal := runLit 7 s
def execLit8 (s : State) : Host.Outcome State Fault Refusal := runLit 8 s
def execLit9 (s : State) : Host.Outcome State Fault Refusal := runLit 9 s
def execLit10 (s : State) : Host.Outcome State Fault Refusal := runLit 10 s
def execLit11 (s : State) : Host.Outcome State Fault Refusal := runLit 11 s
def execLit12 (s : State) : Host.Outcome State Fault Refusal := runLit 12 s
def execLit13 (s : State) : Host.Outcome State Fault Refusal := runLit 13 s
def execLit14 (s : State) : Host.Outcome State Fault Refusal := runLit 14 s
def execLit15 (s : State) : Host.Outcome State Fault Refusal := runLit 15 s
def execLit16 (s : State) : Host.Outcome State Fault Refusal := runLit 16 s
def execLit17 (s : State) : Host.Outcome State Fault Refusal := runLit 17 s
def execLit18 (s : State) : Host.Outcome State Fault Refusal := runLit 18 s
def execLit19 (s : State) : Host.Outcome State Fault Refusal := runLit 19 s
def execLit20 (s : State) : Host.Outcome State Fault Refusal := runLit 20 s
def execLit21 (s : State) : Host.Outcome State Fault Refusal := runLit 21 s
def execLit22 (s : State) : Host.Outcome State Fault Refusal := runLit 22 s
def execLit23 (s : State) : Host.Outcome State Fault Refusal := runLit 23 s
def execLit24 (s : State) : Host.Outcome State Fault Refusal := runLit 24 s
def execLit25 (s : State) : Host.Outcome State Fault Refusal := runLit 25 s
def execLit26 (s : State) : Host.Outcome State Fault Refusal := runLit 26 s
def execLit27 (s : State) : Host.Outcome State Fault Refusal := runLit 27 s
def execLit28 (s : State) : Host.Outcome State Fault Refusal := runLit 28 s
def execLit29 (s : State) : Host.Outcome State Fault Refusal := runLit 29 s
def execLit30 (s : State) : Host.Outcome State Fault Refusal := runLit 30 s
def execLit31 (s : State) : Host.Outcome State Fault Refusal := runLit 31 s
def execLit32 (s : State) : Host.Outcome State Fault Refusal := runLit 32 s
def execLit33 (s : State) : Host.Outcome State Fault Refusal := runLit 33 s
def execLit34 (s : State) : Host.Outcome State Fault Refusal := runLit 34 s
def execLit35 (s : State) : Host.Outcome State Fault Refusal := runLit 35 s
def execLit36 (s : State) : Host.Outcome State Fault Refusal := runLit 36 s
def execLit37 (s : State) : Host.Outcome State Fault Refusal := runLit 37 s
def execLit38 (s : State) : Host.Outcome State Fault Refusal := runLit 38 s
def execLit39 (s : State) : Host.Outcome State Fault Refusal := runLit 39 s
def execLit40 (s : State) : Host.Outcome State Fault Refusal := runLit 40 s
def execLit41 (s : State) : Host.Outcome State Fault Refusal := runLit 41 s
def execLit42 (s : State) : Host.Outcome State Fault Refusal := runLit 42 s
def execLit43 (s : State) : Host.Outcome State Fault Refusal := runLit 43 s
def execLit44 (s : State) : Host.Outcome State Fault Refusal := runLit 44 s
def execLit45 (s : State) : Host.Outcome State Fault Refusal := runLit 45 s
def execLit46 (s : State) : Host.Outcome State Fault Refusal := runLit 46 s
def execLit47 (s : State) : Host.Outcome State Fault Refusal := runLit 47 s
def execLit48 (s : State) : Host.Outcome State Fault Refusal := runLit 48 s
def execLit49 (s : State) : Host.Outcome State Fault Refusal := runLit 49 s
def execLit50 (s : State) : Host.Outcome State Fault Refusal := runLit 50 s
def execLit51 (s : State) : Host.Outcome State Fault Refusal := runLit 51 s
def execLit52 (s : State) : Host.Outcome State Fault Refusal := runLit 52 s
def execLit53 (s : State) : Host.Outcome State Fault Refusal := runLit 53 s
def execLit54 (s : State) : Host.Outcome State Fault Refusal := runLit 54 s
def execLit55 (s : State) : Host.Outcome State Fault Refusal := runLit 55 s
def execLit56 (s : State) : Host.Outcome State Fault Refusal := runLit 56 s
def execLit57 (s : State) : Host.Outcome State Fault Refusal := runLit 57 s
def execLit58 (s : State) : Host.Outcome State Fault Refusal := runLit 58 s
def execLit59 (s : State) : Host.Outcome State Fault Refusal := runLit 59 s
def execLit60 (s : State) : Host.Outcome State Fault Refusal := runLit 60 s
def execLit61 (s : State) : Host.Outcome State Fault Refusal := runLit 61 s
def execLit62 (s : State) : Host.Outcome State Fault Refusal := runLit 62 s
def execLit63 (s : State) : Host.Outcome State Fault Refusal := runLit 63 s
def execLit64 (s : State) : Host.Outcome State Fault Refusal := runLit 64 s
def execLit65 (s : State) : Host.Outcome State Fault Refusal := runLit 65 s
def execLit66 (s : State) : Host.Outcome State Fault Refusal := runLit 66 s
def execLit67 (s : State) : Host.Outcome State Fault Refusal := runLit 67 s
def execLit68 (s : State) : Host.Outcome State Fault Refusal := runLit 68 s
def execLit69 (s : State) : Host.Outcome State Fault Refusal := runLit 69 s
def execLit70 (s : State) : Host.Outcome State Fault Refusal := runLit 70 s
def execLit71 (s : State) : Host.Outcome State Fault Refusal := runLit 71 s
def execLit72 (s : State) : Host.Outcome State Fault Refusal := runLit 72 s
def execLit73 (s : State) : Host.Outcome State Fault Refusal := runLit 73 s
def execLit74 (s : State) : Host.Outcome State Fault Refusal := runLit 74 s
def execLit75 (s : State) : Host.Outcome State Fault Refusal := runLit 75 s
def execLit76 (s : State) : Host.Outcome State Fault Refusal := runLit 76 s
def execLit77 (s : State) : Host.Outcome State Fault Refusal := runLit 77 s
def execLit78 (s : State) : Host.Outcome State Fault Refusal := runLit 78 s
def execLit79 (s : State) : Host.Outcome State Fault Refusal := runLit 79 s
def execLit80 (s : State) : Host.Outcome State Fault Refusal := runLit 80 s
def execLit81 (s : State) : Host.Outcome State Fault Refusal := runLit 81 s
def execLit82 (s : State) : Host.Outcome State Fault Refusal := runLit 82 s
def execLit83 (s : State) : Host.Outcome State Fault Refusal := runLit 83 s
def execLit84 (s : State) : Host.Outcome State Fault Refusal := runLit 84 s
def execLit85 (s : State) : Host.Outcome State Fault Refusal := runLit 85 s
def execLit86 (s : State) : Host.Outcome State Fault Refusal := runLit 86 s
def execLit87 (s : State) : Host.Outcome State Fault Refusal := runLit 87 s
def execLit88 (s : State) : Host.Outcome State Fault Refusal := runLit 88 s
def execLit89 (s : State) : Host.Outcome State Fault Refusal := runLit 89 s
def execLit90 (s : State) : Host.Outcome State Fault Refusal := runLit 90 s
def execLit91 (s : State) : Host.Outcome State Fault Refusal := runLit 91 s
def execLit92 (s : State) : Host.Outcome State Fault Refusal := runLit 92 s
def execLit93 (s : State) : Host.Outcome State Fault Refusal := runLit 93 s
def execLit94 (s : State) : Host.Outcome State Fault Refusal := runLit 94 s
def execLit95 (s : State) : Host.Outcome State Fault Refusal := runLit 95 s
def execLit96 (s : State) : Host.Outcome State Fault Refusal := runLit 96 s
def execLit97 (s : State) : Host.Outcome State Fault Refusal := runLit 97 s
def execLit98 (s : State) : Host.Outcome State Fault Refusal := runLit 98 s
def execLit99 (s : State) : Host.Outcome State Fault Refusal := runLit 99 s
def execLit100 (s : State) : Host.Outcome State Fault Refusal := runLit 100 s
def execLit101 (s : State) : Host.Outcome State Fault Refusal := runLit 101 s
def execLit102 (s : State) : Host.Outcome State Fault Refusal := runLit 102 s
def execLit103 (s : State) : Host.Outcome State Fault Refusal := runLit 103 s
def execLit104 (s : State) : Host.Outcome State Fault Refusal := runLit 104 s
def execLit105 (s : State) : Host.Outcome State Fault Refusal := runLit 105 s
def execLit106 (s : State) : Host.Outcome State Fault Refusal := runLit 106 s
def execLit107 (s : State) : Host.Outcome State Fault Refusal := runLit 107 s
def execLit108 (s : State) : Host.Outcome State Fault Refusal := runLit 108 s
def execLit109 (s : State) : Host.Outcome State Fault Refusal := runLit 109 s
def execLit110 (s : State) : Host.Outcome State Fault Refusal := runLit 110 s
def execLit111 (s : State) : Host.Outcome State Fault Refusal := runLit 111 s
def execLit112 (s : State) : Host.Outcome State Fault Refusal := runLit 112 s
def execLit113 (s : State) : Host.Outcome State Fault Refusal := runLit 113 s
def execLit114 (s : State) : Host.Outcome State Fault Refusal := runLit 114 s
def execLit115 (s : State) : Host.Outcome State Fault Refusal := runLit 115 s
def execLit116 (s : State) : Host.Outcome State Fault Refusal := runLit 116 s
def execLit117 (s : State) : Host.Outcome State Fault Refusal := runLit 117 s
def execLit118 (s : State) : Host.Outcome State Fault Refusal := runLit 118 s
def execLit119 (s : State) : Host.Outcome State Fault Refusal := runLit 119 s
def execLit120 (s : State) : Host.Outcome State Fault Refusal := runLit 120 s
def execLit121 (s : State) : Host.Outcome State Fault Refusal := runLit 121 s
def execLit122 (s : State) : Host.Outcome State Fault Refusal := runLit 122 s
def execLit123 (s : State) : Host.Outcome State Fault Refusal := runLit 123 s
def execLit124 (s : State) : Host.Outcome State Fault Refusal := runLit 124 s
def execLit125 (s : State) : Host.Outcome State Fault Refusal := runLit 125 s
def execLit126 (s : State) : Host.Outcome State Fault Refusal := runLit 126 s
def execLit127 (s : State) : Host.Outcome State Fault Refusal := runLit 127 s
def execLit128 (s : State) : Host.Outcome State Fault Refusal := runLit 128 s
def execLit129 (s : State) : Host.Outcome State Fault Refusal := runLit 129 s
def execLit130 (s : State) : Host.Outcome State Fault Refusal := runLit 130 s
def execLit131 (s : State) : Host.Outcome State Fault Refusal := runLit 131 s
def execLit132 (s : State) : Host.Outcome State Fault Refusal := runLit 132 s
def execLit133 (s : State) : Host.Outcome State Fault Refusal := runLit 133 s
def execLit134 (s : State) : Host.Outcome State Fault Refusal := runLit 134 s
def execLit135 (s : State) : Host.Outcome State Fault Refusal := runLit 135 s
def execLit136 (s : State) : Host.Outcome State Fault Refusal := runLit 136 s
def execLit137 (s : State) : Host.Outcome State Fault Refusal := runLit 137 s
def execLit138 (s : State) : Host.Outcome State Fault Refusal := runLit 138 s
def execLit139 (s : State) : Host.Outcome State Fault Refusal := runLit 139 s
def execLit140 (s : State) : Host.Outcome State Fault Refusal := runLit 140 s
def execLit141 (s : State) : Host.Outcome State Fault Refusal := runLit 141 s
def execLit142 (s : State) : Host.Outcome State Fault Refusal := runLit 142 s
def execLit143 (s : State) : Host.Outcome State Fault Refusal := runLit 143 s
def execLit144 (s : State) : Host.Outcome State Fault Refusal := runLit 144 s
def execLit145 (s : State) : Host.Outcome State Fault Refusal := runLit 145 s
def execLit146 (s : State) : Host.Outcome State Fault Refusal := runLit 146 s
def execLit147 (s : State) : Host.Outcome State Fault Refusal := runLit 147 s
def execLit148 (s : State) : Host.Outcome State Fault Refusal := runLit 148 s
def execLit149 (s : State) : Host.Outcome State Fault Refusal := runLit 149 s
def execLit150 (s : State) : Host.Outcome State Fault Refusal := runLit 150 s
def execLit151 (s : State) : Host.Outcome State Fault Refusal := runLit 151 s
def execLit152 (s : State) : Host.Outcome State Fault Refusal := runLit 152 s
def execLit153 (s : State) : Host.Outcome State Fault Refusal := runLit 153 s
def execLit154 (s : State) : Host.Outcome State Fault Refusal := runLit 154 s
def execLit155 (s : State) : Host.Outcome State Fault Refusal := runLit 155 s
def execLit156 (s : State) : Host.Outcome State Fault Refusal := runLit 156 s
def execLit157 (s : State) : Host.Outcome State Fault Refusal := runLit 157 s
def execLit158 (s : State) : Host.Outcome State Fault Refusal := runLit 158 s
def execLit159 (s : State) : Host.Outcome State Fault Refusal := runLit 159 s
def execLit160 (s : State) : Host.Outcome State Fault Refusal := runLit 160 s
def execLit161 (s : State) : Host.Outcome State Fault Refusal := runLit 161 s
def execLit162 (s : State) : Host.Outcome State Fault Refusal := runLit 162 s
def execLit163 (s : State) : Host.Outcome State Fault Refusal := runLit 163 s
def execLit164 (s : State) : Host.Outcome State Fault Refusal := runLit 164 s
def execLit165 (s : State) : Host.Outcome State Fault Refusal := runLit 165 s
def execLit166 (s : State) : Host.Outcome State Fault Refusal := runLit 166 s
def execLit167 (s : State) : Host.Outcome State Fault Refusal := runLit 167 s
def execLit168 (s : State) : Host.Outcome State Fault Refusal := runLit 168 s
def execLit169 (s : State) : Host.Outcome State Fault Refusal := runLit 169 s
def execLit170 (s : State) : Host.Outcome State Fault Refusal := runLit 170 s
def execLit171 (s : State) : Host.Outcome State Fault Refusal := runLit 171 s
def execLit172 (s : State) : Host.Outcome State Fault Refusal := runLit 172 s
def execLit173 (s : State) : Host.Outcome State Fault Refusal := runLit 173 s
def execLit174 (s : State) : Host.Outcome State Fault Refusal := runLit 174 s
def execLit175 (s : State) : Host.Outcome State Fault Refusal := runLit 175 s
def execLit176 (s : State) : Host.Outcome State Fault Refusal := runLit 176 s
def execLit177 (s : State) : Host.Outcome State Fault Refusal := runLit 177 s
def execLit178 (s : State) : Host.Outcome State Fault Refusal := runLit 178 s
def execLit179 (s : State) : Host.Outcome State Fault Refusal := runLit 179 s
def execLit180 (s : State) : Host.Outcome State Fault Refusal := runLit 180 s
def execLit181 (s : State) : Host.Outcome State Fault Refusal := runLit 181 s
def execLit182 (s : State) : Host.Outcome State Fault Refusal := runLit 182 s
def execLit183 (s : State) : Host.Outcome State Fault Refusal := runLit 183 s
def execLit184 (s : State) : Host.Outcome State Fault Refusal := runLit 184 s
def execLit185 (s : State) : Host.Outcome State Fault Refusal := runLit 185 s
def execLit186 (s : State) : Host.Outcome State Fault Refusal := runLit 186 s
def execLit187 (s : State) : Host.Outcome State Fault Refusal := runLit 187 s
def execLit188 (s : State) : Host.Outcome State Fault Refusal := runLit 188 s
def execLit189 (s : State) : Host.Outcome State Fault Refusal := runLit 189 s
def execLit190 (s : State) : Host.Outcome State Fault Refusal := runLit 190 s
def execLit191 (s : State) : Host.Outcome State Fault Refusal := runLit 191 s
def execLit192 (s : State) : Host.Outcome State Fault Refusal := runLit 192 s
def execLit193 (s : State) : Host.Outcome State Fault Refusal := runLit 193 s
def execLit194 (s : State) : Host.Outcome State Fault Refusal := runLit 194 s
def execLit195 (s : State) : Host.Outcome State Fault Refusal := runLit 195 s
def execLit196 (s : State) : Host.Outcome State Fault Refusal := runLit 196 s
def execLit197 (s : State) : Host.Outcome State Fault Refusal := runLit 197 s
def execLit198 (s : State) : Host.Outcome State Fault Refusal := runLit 198 s
def execLit199 (s : State) : Host.Outcome State Fault Refusal := runLit 199 s
def execLit200 (s : State) : Host.Outcome State Fault Refusal := runLit 200 s
def execLit201 (s : State) : Host.Outcome State Fault Refusal := runLit 201 s
def execLit202 (s : State) : Host.Outcome State Fault Refusal := runLit 202 s
def execLit203 (s : State) : Host.Outcome State Fault Refusal := runLit 203 s
def execLit204 (s : State) : Host.Outcome State Fault Refusal := runLit 204 s
def execLit205 (s : State) : Host.Outcome State Fault Refusal := runLit 205 s
def execLit206 (s : State) : Host.Outcome State Fault Refusal := runLit 206 s
def execLit207 (s : State) : Host.Outcome State Fault Refusal := runLit 207 s
def execLit208 (s : State) : Host.Outcome State Fault Refusal := runLit 208 s
def execLit209 (s : State) : Host.Outcome State Fault Refusal := runLit 209 s
def execLit210 (s : State) : Host.Outcome State Fault Refusal := runLit 210 s
def execLit211 (s : State) : Host.Outcome State Fault Refusal := runLit 211 s
def execLit212 (s : State) : Host.Outcome State Fault Refusal := runLit 212 s
def execLit213 (s : State) : Host.Outcome State Fault Refusal := runLit 213 s
def execLit214 (s : State) : Host.Outcome State Fault Refusal := runLit 214 s
def execLit215 (s : State) : Host.Outcome State Fault Refusal := runLit 215 s
def execLit216 (s : State) : Host.Outcome State Fault Refusal := runLit 216 s
def execLit217 (s : State) : Host.Outcome State Fault Refusal := runLit 217 s
def execLit218 (s : State) : Host.Outcome State Fault Refusal := runLit 218 s
def execLit219 (s : State) : Host.Outcome State Fault Refusal := runLit 219 s
def execLit220 (s : State) : Host.Outcome State Fault Refusal := runLit 220 s
def execLit221 (s : State) : Host.Outcome State Fault Refusal := runLit 221 s
def execLit222 (s : State) : Host.Outcome State Fault Refusal := runLit 222 s
def execLit223 (s : State) : Host.Outcome State Fault Refusal := runLit 223 s
def execLit224 (s : State) : Host.Outcome State Fault Refusal := runLit 224 s
def execLit225 (s : State) : Host.Outcome State Fault Refusal := runLit 225 s
def execLit226 (s : State) : Host.Outcome State Fault Refusal := runLit 226 s
def execLit227 (s : State) : Host.Outcome State Fault Refusal := runLit 227 s
def execLit228 (s : State) : Host.Outcome State Fault Refusal := runLit 228 s
def execLit229 (s : State) : Host.Outcome State Fault Refusal := runLit 229 s
def execLit230 (s : State) : Host.Outcome State Fault Refusal := runLit 230 s
def execLit231 (s : State) : Host.Outcome State Fault Refusal := runLit 231 s
def execLit232 (s : State) : Host.Outcome State Fault Refusal := runLit 232 s
def execLit233 (s : State) : Host.Outcome State Fault Refusal := runLit 233 s
def execLit234 (s : State) : Host.Outcome State Fault Refusal := runLit 234 s
def execLit235 (s : State) : Host.Outcome State Fault Refusal := runLit 235 s
def execLit236 (s : State) : Host.Outcome State Fault Refusal := runLit 236 s
def execLit237 (s : State) : Host.Outcome State Fault Refusal := runLit 237 s
def execLit238 (s : State) : Host.Outcome State Fault Refusal := runLit 238 s
def execLit239 (s : State) : Host.Outcome State Fault Refusal := runLit 239 s
def execLit240 (s : State) : Host.Outcome State Fault Refusal := runLit 240 s
def execLit241 (s : State) : Host.Outcome State Fault Refusal := runLit 241 s
def execLit242 (s : State) : Host.Outcome State Fault Refusal := runLit 242 s
def execLit243 (s : State) : Host.Outcome State Fault Refusal := runLit 243 s
def execLit244 (s : State) : Host.Outcome State Fault Refusal := runLit 244 s
def execLit245 (s : State) : Host.Outcome State Fault Refusal := runLit 245 s
def execLit246 (s : State) : Host.Outcome State Fault Refusal := runLit 246 s
def execLit247 (s : State) : Host.Outcome State Fault Refusal := runLit 247 s
def execLit248 (s : State) : Host.Outcome State Fault Refusal := runLit 248 s
def execLit249 (s : State) : Host.Outcome State Fault Refusal := runLit 249 s
def execLit250 (s : State) : Host.Outcome State Fault Refusal := runLit 250 s
def execLit251 (s : State) : Host.Outcome State Fault Refusal := runLit 251 s
def execLit252 (s : State) : Host.Outcome State Fault Refusal := runLit 252 s
def execLit253 (s : State) : Host.Outcome State Fault Refusal := runLit 253 s
def execLit254 (s : State) : Host.Outcome State Fault Refusal := runLit 254 s
def execLit255 (s : State) : Host.Outcome State Fault Refusal := runLit 255 s

end Sys2Proof.Machine
end

