-- ==== Sys2Proof/Machine/LitTab.lean ====
section
/-! DEFINITION. The literal table rows (R109 to R111): `LITTAB_FIXED` and the unit `LTP`. -/

namespace Sys2Proof.Machine

/-- `LITTAB_FIXED` (R110): `Expand(LIT_ROM, 256)` (R88), whose own fault is `InvalidLiteralTable`. -/
def execLittabFixed (s : State) : Host.Outcome State Fault Refusal :=
  runWhen .littabFixed s fun _ s =>
    match expand litRom 256 with
    | .ok lens => .next { s.loadLitLen lens with phase := .token }
    | .error n => .next (s.raise .invalidLiteralTable (.assigned n))

/-- `LTP` (R65, R111): length `l` for the next `r + 1` symbols, then the end of the loop body. -/
def execLtp (l r : BitVec 4) (s : State) : Host.Outcome State Fault Refusal :=
  runWhen (.ltp l r) s fun _ s => (s.assignLens l (r.toNat + 1)).closeTable

end Sys2Proof.Machine
end

