-- ==== Sys2Proof/Machine/Fetch.lean ====
section
/-! DEFINITION. Fetching: decode at the stream position, run what is decoded, and raise what the bit reader meets. -/

namespace Sys2Proof.Machine

/-- Run the one item at the stream position: decode it in the state's context and execute it; a fault met while reading
is raised with the bits read before it consumed (R126, R129, R130). -/
def stepItem (s : State) : Host.Outcome State Fault Refusal :=
  match s.expects with
  | .stop f => .fault f
  | .ctx c =>
    match decode c s.reader with
    | .ok i _ => exec i s
    | .bad k info r => .next ({ s with reader := r }.raise k info)

/-- The loop of `LITTAB_STREAM` (R111): units until the table closes or a fault is raised. Every unit assigns at least
one symbol, so 256 rounds are enough. -/
def tableLoop : Nat → State → Host.Outcome State Fault Refusal
  | 0, s => .next s
  | n + 1, s =>
    match stepItem s with
    | .next t => if t.field = .unit then tableLoop n t else .next t
    | stop => stop

/-- One whole operation (R105, R106): a transmitted table is read in one step; everything else is one item. -/
def stepOperation (s : State) : Host.Outcome State Fault Refusal :=
  if s.atTable then tableLoop 256 s.openTable else stepItem s

/-- A source whose stream bits from `pos` on are `bs`; the bits before and the bits after are kept. -/
def placeBits (src : List Byte) (pos : Nat) (bs : List Bit) : List Byte :=
  let old := BitReader.streamBits src
  let new := (old ++ List.replicate pos false).take pos ++ bs ++ old.drop (pos + bs.length)
  packBits new.length new

/-- The sequencer at a decode context: only what the context needs is set; a token's `dict` is kept (log 17). -/
def State.setCtx (c : Ctx) (s : State) : State :=
  match c with
  | .header => { s with phase := .header, field := .none }
  | .fixedTable => { s with phase := .littab, field := .none, litSrc := .fixed }
  | .tableUnit => { s with phase := .littab, field := .unit, litSrc := .stream }
  | .token none _ => { s with phase := .token, field := .none, litCoded := false }
  | .token (some lens) _ => { s.loadLitLen lens with phase := .token, field := .none, litCoded := true }
  | .litCode lens => { s.loadLitLen lens with phase := .token, field := .lit, litCoded := true }
  | .lenCode => { s with phase := .token, field := .len }
  | .distCode length dict => { s with phase := .token, field := .dist length, dict := BitVec.ofNat 3 dict }

/-- The state with a table word, followed by zero bits up to 48, at its stream position and the sequencer at the word's
context (log 17). -/
def State.placeWord (s : State) (nbits w : Nat) : State :=
  match tableCtx nbits w with
  | some (c, bs) =>
    State.setCtx c
      { s with reader := { s.reader with src := placeBits s.reader.src s.reader.inBits (bs ++ List.replicate 32 false) } }
  | none => s

end Sys2Proof.Machine
end

