-- ==== Sys2Proof/Machine/Step.lean ====
section
/-! DEFINITION. One step (R104 to R106), and where a word is placed for the next step to run it. -/

namespace Sys2Proof.Machine

/-- One step of the engine (R104): one whole header, table or token (R106). -/
def step (s : State) : Host.Outcome State Fault Refusal := stepOperation s

/-- `s` with a table word where the next step fetches, and the sequencer at the word's context (log 17). -/
def State.withFetchWord (s : State) (nbits w : Nat) : State := s.placeWord nbits w

end Sys2Proof.Machine
end

