-- ==== Sys2Proof/Machine/Flags.lean ====
section
/-! DEFINITION. The engine has no condition codes (R32). Its status view: the codes of `phase` and `err` (R17, R18), the
register `STATUS` (R33) and the register view the host reads (R34). -/

namespace Sys2Proof.Machine

/-- The code of a phase (R17). -/
def Phase.code : Phase → Nat
  | .header => 0
  | .littab => 1
  | .token => 2
  | .done => 3
  | .fault => 4

/-- The code of a fault kind (R18, R127). -/
def errCode : ErrKind → Nat
  | .none => 0
  | .invalidHeader => 1
  | .invalidLiteralTable => 2
  | .invalidCode => 3
  | .invalidDistance => 4
  | .unexpectedEndOfInput => 5

/-- The code of `LIT_TABLE_SOURCE` in `STATUS.LIT_SRC` (R33). -/
def litSrcCode : LitTableSource → Nat
  | .fixed => 0
  | .stream => 1

namespace State

/-- `STATUS`, register 0 (R33). -/
def status (s : State) : BitVec 32 :=
  BitVec.ofNat 32
    (s.phase.code + errCode s.err * 2 ^ 4 + s.litCoded.toNat * 2 ^ 8 + s.dict.toNat * 2 ^ 9 + litSrcCode s.litSrc * 2 ^ 12)

/-- A counter as the host sees it at width `w`: modulo `2^w` when the width is finite (R34). -/
def visibleCounter (w : Option Nat) (n : Nat) : Nat :=
  match w with
  | none => n
  | some k => n % 2 ^ k

/-- The register view at a counter width (R34): 0 is `STATUS`, 1 is `IN_BITS`, 2 is `OUT_COUNT`, the rest read 0. -/
def readRegAt (w : Option Nat) (n : Nat) (s : State) : Nat :=
  match n with
  | 0 => s.status.toNat
  | 1 => visibleCounter w s.inBits
  | 2 => visibleCounter w s.produced
  | _ => 0

/-- A host read of register `n` (R34, R35), at this hardware's counter width (log 3). -/
def readReg (n : Nat) (s : State) : Nat := s.readRegAt Config.cntW n

/-- The level output `halted` (R137, log 19). -/
def halted (s : State) : Bool := s.phase == .done || s.phase == .fault

end State

end Sys2Proof.Machine
end

