-- ==== Sys2Proof/Machine/HostPort.lean ====
section
/-! DEFINITION. What the host can do to the engine besides feeding it: reset it and write to its read-only registers. -/

namespace Sys2Proof.Machine.State

/-- The host asserts reset and offers a new input (R146, R147, R150): every piece of state takes its reset value, in any
phase; the parameter is not state and stays (R38, log 15). -/
def hostReset (src : List Byte) (s : State) : State :=
  { State.reset with reader := ⟨src, 0, 0⟩, litSrc := s.litSrc }

/-- A host write of `v` to register `n`: ignored (R35). -/
def writeReg (_n _v : Nat) (s : State) : State := s

end Sys2Proof.Machine.State
end

