-- ==== Sys2Proof/Safety.lean ====
section
/-! DEFINITION. What the claims are about: how a run ends (R158), and the invariant of the states a run from reset
passes through. -/

namespace Sys2Proof.Machine.State

/-- A run has ended: the engine is in a phase with no step (R158). -/
def ended (s : State) : Bool := s.halted

/-- A run has ended well (R158). -/
def endedWell (s : State) : Bool := s.phase == .done

/-- The state lies between two of the spec's atomic steps (R106): the model's own field is not in use (log 6). -/
def atBoundary (s : State) : Prop := s.field = .none

/-- The window is the recent output (R96, R101): output byte `k`, when it is one of the last 4096, stands at
`k mod 4096`, and no cell that has not been written is listed (R39). -/
structure WindowHolds (s : State) : Prop where
  recent : ∀ k, (h : k < s.out.length) → s.out.length ≤ k + 4096 → s.win.read (k % 4096) = some s.out[k]
  written : ∀ c ∈ s.win, c.1 < s.out.length

/-- The literal table is loaded and accepted (R23, R85), and on a `FIXED` engine it is `LIT_ROM` (R110). -/
def TableLoaded (s : State) : Prop :=
  ∃ lens, s.litLens = some lens ∧ literalTableWf lens = true ∧ (s.litSrc = .fixed → lens = litLensFixed)

/-- The model's own field belongs to its phase (log 6): inside a table, a coded literal or a match. -/
def FieldFits (s : State) : Prop :=
  match s.field with
  | .none => True
  | .unit => s.phase = .littab ∧ s.litSrc = .stream ∧ s.ltN < 256 ∧ s.litLen.map Prod.fst = List.range s.ltN
  | .lit => s.phase = .token ∧ s.litCoded = true
  | .len => s.phase = .token
  | .dist length => s.phase = .token ∧ 2 ≤ length ∧ length < endLength

/-- The invariant of every run from reset. -/
structure Inv (s : State) : Prop where
  /-- The position stays inside the input (R78). -/
  position : s.inBits ≤ 8 * s.reader.src.length
  /-- R18. -/
  errIff : s.err = .none ↔ s.phase ≠ .fault
  /-- R22. -/
  dictLegal : s.dict = 0 ∨ s.dict = 4 ∨ s.dict = 5 ∨ s.dict = 6
  /-- R22, R37: before the header nothing has been read, written or emitted. -/
  beforeHeader : s.phase = .header →
    s.inBits = 0 ∧ s.dict = 0 ∧ s.litCoded = false ∧ s.litLen = [] ∧ s.ltN = 0 ∧ s.out = []
  /-- R22: after a valid header `dict` is 4, 5 or 6. -/
  afterHeader : s.phase = .littab ∨ s.phase = .token ∨ s.phase = .done → s.dict ≠ 0
  /-- R109: phase `LITTAB` is a coded-literal stream's, and at its start the table is not loaded. -/
  tableNext : s.phase = .littab → s.litCoded = true ∧ (s.field = .none → s.litLen = [] ∧ s.ltN = 0)
  /-- R23: a token of a coded-literal stream finds the table loaded. -/
  tableLoaded : s.phase = .token → s.litCoded = true → s.TableLoaded
  /-- R30. -/
  ltNBound : s.ltN ≤ 271
  /-- R26, R39, R96. -/
  winWf : s.win.wf 4096
  /-- R23, R39. -/
  litLenWf : s.litLen.wf 256
  /-- R101. -/
  window : s.WindowHolds
  /-- Log 6. -/
  fieldFits : s.FieldFits

end Sys2Proof.Machine.State
end

