-- ==== Sys2Proof/Certificates/Slice0/Obligations.lean ====
section
/-! DEFINITION. The statements for the provers, with the few terms they share. -/

open Sys2Proof Sys2Proof.Machine

namespace Sys2Proof.Claims

/-- The bytes a match of this distance and length emits after the output `out` (R99): the last `distance` bytes as a
repeating pattern, cut off after `length` bytes. -/
def copied (out : List Byte) (distance length : Nat) : List Byte :=
  (List.range length).map fun k => out.getD (out.length - distance + k % distance) 0

/-- The number of bytes a token that completes emits (R113, R114, R120, R123). -/
def emittedCount : Op → Nat
  | .litRaw _ => 1
  | .litCoded _ => 1
  | .matchRef s x _ _ => matchLength s x
  | _ => 0

/-- The state with another input on the channel. -/
def withSrc (src : List Byte) (s : State) : State := { s with reader := { s.reader with src := src } }

/-- The distance of symbol `t` and extra bits `y` in a match of this length, at the state's `dict` (R118). -/
def distanceAt (s : State) (length : Nat) (t : Fin 64) (y : Nat) : Nat :=
  matchDistance t (distExtra length s.dict.toNat) y

/-- The step from a field boundary inside a match, and the step after it when a distance code is next (log 6). -/
def stepThroughMatch (s : State) : Host.Outcome State Fault Refusal :=
  match step s with
  | .next t =>
    match t.field with
    | .dist _ => step t
    | _ => .next t
  | stop => stop

/-- The stream bits of table units (R65). -/
def unitBits (units : List (BitVec 4 × BitVec 4)) : List Bit :=
  units.flatMap fun u => rawBits 4 u.1.toNat ++ rawBits 4 u.2.toNat

/-- The code lengths table units assign (R65): each length `r + 1` times. -/
def unitLens (units : List (BitVec 4 × BitVec 4)) : List Nat :=
  units.flatMap fun u => List.replicate (u.2.toNat + 1) u.1.toNat

end Sys2Proof.Claims

open Sys2Proof.Claims

/-! ## Bit reader -/

/-- R78, R79: a successful `NextBit` returns the bit of the current byte, moves the position one bit on and leaves the
rest of the stream to be read; with no byte at the position it is `UnexpectedEndOfInput` and nothing moves. -/
def Obligations.NextBitConsumesOneBit : Prop :=
  ∀ r : BitReader,
    (∀ v, r.src[r.bytePos]? = some v →
      ∃ r', r.nextBit = .ok (decide ((v.toNat >>> r.bitPos.val) % 2 = 1)) r' ∧
        r'.src = r.src ∧
        r'.bytePos = (if r.bitPos = 7 then r.bytePos + 1 else r.bytePos) ∧
        r'.bitPos.val = (if r.bitPos = 7 then 0 else r.bitPos.val + 1) ∧
        r'.inBits = r.inBits + 1 ∧
        r.bits = decide ((v.toNat >>> r.bitPos.val) % 2 = 1) :: r'.bits) ∧
    (r.src[r.bytePos]? = none →
      r.nextBit = .bad .unexpectedEndOfInput (.atBit r.inBits) r ∧ r.bits = [])

/-- R80: `NextBits(n)` makes the first bit read bit 0; when the stream is too short it reads what there is and then is
`UnexpectedEndOfInput`; no bits are 0; and eight bits are the byte at a byte boundary and straddle two bytes elsewhere. -/
def Obligations.NextBitsIsLittleEndian : Prop :=
  ∀ (n : Nat) (r : BitReader),
    (n ≤ r.bits.length →
      ∃ v, BitReader.nextBits n r = .ok v (r.advance n) ∧ v < 2 ^ n ∧
        (∀ i, i < n → r.bits[i]? = some (v.testBit i)) ∧ (r.advance n).bits = r.bits.drop n) ∧
    (r.bits.length < n →
      BitReader.nextBits n r =
        .bad .unexpectedEndOfInput (.atBit (r.inBits + r.bits.length)) (r.advance r.bits.length)) ∧
    BitReader.nextBits 0 r = .ok 0 r ∧
    (∀ v : Byte, r.src[r.bytePos]? = some v →
      (r.bitPos = 0 → (BitReader.nextBits 8 r).value? = some v.toNat) ∧
      (r.bitPos ≠ 0 → ∀ w : Byte, r.src[r.bytePos + 1]? = some w →
        (BitReader.nextBits 8 r).value? =
          some ((v.toNat >>> r.bitPos.val) ||| ((w.toNat <<< (8 - r.bitPos.val)) &&& 0xFF))))

/-! ## Huffman tables -/

/-- R93 (first sentence) and the counts of R89: the fixed tables expand to their symbol counts and are complete. -/
def Obligations.FixedTablesComplete : Prop :=
  expand litRom 256 = .ok litLensFixed ∧ expand lenRom 16 = .ok lenLens ∧ expand distRom 64 = .ok distLens ∧
  Huffman.kraft litLensFixed = .complete ∧ Huffman.kraft lenLens = .complete ∧ Huffman.kraft distLens = .complete ∧
  Huffman.maxlen litLensFixed = 13 ∧ Huffman.maxlen lenLens = 7 ∧ Huffman.maxlen distLens = 8 ∧
  (List.range 13).map (fun k => Huffman.count litLensFixed (k + 1)) = [0, 0, 0, 1, 11, 20, 21, 16, 7, 5, 10, 91, 74]

/-- R85, R93: a table that is complete never meets `InvalidCode`; a decode of it can fail only because the input ends. -/
def Obligations.CompleteTableNeverInvalidCode : Prop :=
  ∀ (table : TableId) (lens : List Nat) (r : BitReader),
    (∀ l ∈ lens, l < 16) → Huffman.kraft lens = .complete →
    (∃ s r', huffDecode table lens r = .ok s r') ∨
    (∃ n r', huffDecode table lens r = .bad .unexpectedEndOfInput (.atBit n) r')

/-- R84, R86: in every table that is not over-subscribed, decoding the code the canonical assignment gives a symbol reads
exactly that code and returns that symbol. -/
def Obligations.CanonicalCodesDecode : Prop :=
  ∀ (table : TableId) (lens : List Nat) (s : Nat) (r : BitReader) (rest : List Bit),
    (∀ l ∈ lens, l < 16) → Huffman.kraft lens ≠ .over → s < lens.length → lens.getD s 0 ≠ 0 →
    r.bits = codeBits lens s ++ rest →
    huffDecode table lens r = .ok s (r.advance (lens.getD s 0))

/-- R86 (D10): a table with no codes is `InvalidCode` at once, no bit read. -/
def Obligations.EmptyTableIsInvalidCode : Prop :=
  ∀ (table : TableId) (lens : List Nat) (r : BitReader), (∀ l ∈ lens, l = 0) →
    huffDecode table lens r = .bad .invalidCode (.noCode table 0) r

/-! ## Operand arithmetic -/

/-- R70: the lengths are 2 to 519 and each has exactly one spelling. -/
def Obligations.LengthHasOneSpelling : Prop :=
  (∀ (s : Fin 16) (x : Nat), x < 2 ^ lenExtra s →
    matchLength s x = lenBase s + x ∧ 2 ≤ matchLength s x ∧ matchLength s x ≤ 519) ∧
  (∀ n, 2 ≤ n → n ≤ 519 → ∃ s x, x < 2 ^ lenExtra s ∧ matchLength s x = n) ∧
  (∀ (s s' : Fin 16) (x x' : Nat), x < 2 ^ lenExtra s → x' < 2 ^ lenExtra s' →
    matchLength s x = matchLength s' x' → s = s' ∧ x = x')

/-- R71: with `e` extra bits the distances are `1` to `64 << e` and each has exactly one spelling; `e` is 2 when the
length is 2 and `DICT` otherwise. -/
def Obligations.DistanceHasOneSpelling : Prop :=
  (∀ dict length, distExtra length dict = if length = 2 then 2 else dict) ∧
  (∀ (t : Fin 64) (e y : Nat), y < 2 ^ e →
    matchDistance t e y = (t.val <<< e) + y + 1 ∧ 1 ≤ matchDistance t e y ∧ matchDistance t e y ≤ 64 <<< e) ∧
  (∀ e d, 1 ≤ d → d ≤ 64 <<< e → ∃ (t : Fin 64) (y : Nat), y < 2 ^ e ∧ matchDistance t e y = d) ∧
  (∀ (t t' : Fin 64) (e y y' : Nat), y < 2 ^ e → y' < 2 ^ e →
    matchDistance t e y = matchDistance t' e y' → t = t' ∧ y = y')

/-! ## Encoding -/

/-- Words written out from the spec's encodings decode to what they stand for (R60, R66, R67, R69, R72, R73, R74; the bit
strings of 95_test_vectors.md S9, HD8, HD5 and P2). -/
def Obligations.WrittenOutWordsDecode : Prop :=
  decode .header (readerOf [false, false, false, false, false, false, false, false,
    false, false, true, false, false, false, false, false]) = .ok .hdrRaw4 ⟨[0x00, 0x04], 2, 0⟩ ∧
  (decode (.token none 4) (readerOf [false, true, false, false, false, false, false, true, false])).value? =
    some (.litRaw 0x41) ∧
  (decode (.token none 4) (readerOf [true, false, false, true, false, false, true, true, true, true, false, false,
    false])).value? = some (.matchRef 8 1 0 1) ∧
  (decode (.token none 4) (readerOf [true, false, false, false, false, false, false, false, true, true, true, true, true,
    true, true, true])).value? = some .endOfStream ∧
  (decode (.token (some litLensFixed) 4) (readerOf [false, true, false, false, false, true, true])).value? =
    some (.litCoded 0x41) ∧
  (decode (.litCode litLensFixed) (readerOf [true, false, false, false, true, true])).value? = some .lit65 ∧
  (decode .lenCode (readerOf [false, false, true, false, false, true])).value? = some (.len8 1) ∧
  (decode (.distCode 2 6) (readerOf [false, false, false, false, false, false, false, false, true, true])).value? =
    some (.dist63 3) ∧
  (decode .tableUnit (readerOf [false, false, false, true, true, true, true, true])).value? = some (.ltp 8 15)

/-- Decode inverts encode: at every context the sequencer can form, for every well-formed instruction, with every operand
at every value its encoding admits. -/
def Obligations.DecodeInvertsEncode : Prop :=
  ∀ (c : Ctx) (i : Instr) (r : BitReader) (rest : List Bit),
    c.wf = true → i.wf c = true → r.bits = encode c i ++ rest →
    decode c r = .ok i (r.advance (encode c i).length) ∧ (r.advance (encode c i).length).bits = rest

/-- Every bit string the decoder reads is the encoding of the well-formed instruction it gives, and it reads no further. -/
def Obligations.DecodedWordIsItsEncoding : Prop :=
  ∀ (c : Ctx) (r r' : BitReader) (i : Instr), c.wf = true → decode c r = .ok i r' →
    i.wf c = true ∧ r.bits = encode c i ++ r'.bits ∧ r' = r.advance (opWidth c i.op) ∧
      (encode c i).length = opWidth c i.op

/-- R58, R81, R121: the widths of the tokens; every token is at least 2 bits, a match is 8 to 30 bits, a coded literal of
the fixed table is 5 to 14 bits. -/
def Obligations.TokenWidths : Prop :=
  ∀ (lits : Option (List Nat)) (dict : Nat) (i : Instr),
    (Ctx.token lits dict).wf = true → i.wf (.token lits dict) = true →
    2 ≤ (encode (.token lits dict) i).length ∧
    (∀ s x t y, i = .matchRef s x t y →
      8 ≤ (encode (.token lits dict) i).length ∧ (encode (.token lits dict) i).length ≤ 30) ∧
    (∀ v, i = .litCoded v → lits = some litLensFixed →
      5 ≤ (encode (.token lits dict) i).length ∧ (encode (.token lits dict) i).length ≤ 14) ∧
    (∀ v, i = .litRaw v → (encode (.token lits dict) i).length = 9) ∧
    (i = .endOfStream → (encode (.token lits dict) i).length = 16)

/-! ## The step -/

/-- A step runs the instruction decoded at the stream position; at the start of a transmitted table it opens the table and
runs its units to the table's end (R105, R106, R111). -/
def Obligations.StepRunsDecodedInstruction : Prop :=
  ∀ s : State,
    (s.atTable = false → ∀ c i r, s.expects = .ctx c → decode c s.reader = .ok i r → step s = exec i s) ∧
    (s.atTable = true → step s = tableLoop 256 s.openTable)

/-- An instruction that a step runs consumes exactly the bits that were decoded. -/
def Obligations.ExecConsumesDecodedBits : Prop :=
  ∀ (s t : State) (c : Ctx) (i : Instr) (r : BitReader),
    s.expects = .ctx c → c.wf = true → decode c s.reader = .ok i r → exec i s = .next t → t.reader = r

/-- R126, R130: a fault met while reading ends the step; the bits read before it stay consumed and nothing else changes. -/
def Obligations.ReadFaultIsRaised : Prop :=
  ∀ (s : State) (c : Ctx) (k : ErrKind) (info : Info) (r : BitReader),
    s.atTable = false → s.expects = .ctx c → decode c s.reader = .bad k info r →
    step s = .next { s with reader := r, err := k, phase := .fault, info := info, field := .none }

/-- R104, R124, R125, R134: in `DONE` and `FAULT` there is no step and no instruction runs. -/
def Obligations.TerminalPhasesHaveNoStep : Prop :=
  ∀ s : State,
    (s.phase = .done → step s = .fault .runDone ∧ ∀ i, exec i s = .fault .runDone) ∧
    (s.phase = .fault → step s = .fault .runFaulted ∧ ∀ i, exec i s = .fault .runFaulted)

/-- R104: from every state a run passes through, a step in `HEADER`, `LITTAB` or `TOKEN` answers a next state; in `DONE`
and `FAULT` there is no step; and no step of any state answers a refusal. -/
def Obligations.StepIsTotal : Prop :=
  (∀ s : State, s.Inv → (s.phase = .header ∨ s.phase = .littab ∨ s.phase = .token) → ∃ t, step s = .next t) ∧
  (∀ s : State, (s.phase = .done ∨ s.phase = .fault) → ∀ t, step s ≠ .next t) ∧
  (∀ (s : State) (q : Refusal), step s ≠ .refused q)

/-- R37: the reset state meets the invariant, whatever the host offers as input and whatever the parameter. -/
def Obligations.ResetMeetsInv : Prop :=
  State.reset.Inv ∧ ∀ (src : List Byte) (s : State), (s.hostReset src).Inv

/-- Every step keeps the invariant. -/
def Obligations.StepKeepsInv : Prop :=
  ∀ s t : State, s.Inv → step s = .next t → t.Inv

/-- R106: a step from the boundary of an operation ends at the boundary of an operation, a transmitted table included. -/
def Obligations.StepEndsAtBoundary : Prop :=
  ∀ s t : State, s.atBoundary → step s = .next t → t.atBoundary

/-- R103: the only transitions of the sequencer; `END` is the token that goes to `DONE`. -/
def Obligations.PhaseTransitions : Prop :=
  ∀ s t : State, s.Inv → s.atBoundary → step s = .next t →
    (s.phase = .header ∧ t.phase = .token ∧ t.litCoded = false) ∨
    (s.phase = .header ∧ t.phase = .littab ∧ t.litCoded = true) ∨
    (s.phase = .littab ∧ t.phase = .token) ∨
    (s.phase = .token ∧ ∃ c i r, s.expects = .ctx c ∧ decode c s.reader = .ok i r ∧
      ((i ≠ .endOfStream ∧ t.phase = .token) ∨ (i = .endOfStream ∧ t.phase = .done))) ∨
    ((s.phase = .header ∨ s.phase = .littab ∨ s.phase = .token) ∧ t.phase = .fault)

/-- R19, R38, R138: no step moves the position back, changes the input or changes `LIT_TABLE_SOURCE`. -/
def Obligations.PositionNeverMovesBack : Prop :=
  ∀ s t : State, step s = .next t →
    s.inBits ≤ t.inBits ∧ t.reader.src = s.reader.src ∧ t.litSrc = s.litSrc

/-- R29, R159: a step only appends to the output, and at most 518 bytes. -/
def Obligations.OutputOnlyGrows : Prop :=
  ∀ s t : State, s.Inv → step s = .next t →
    ∃ bytes : List Byte, t.out = s.out ++ bytes ∧ bytes.length ≤ 518

/-- R160: at a boundary, a step either consumes at least one bit, ends the run or is `LITTAB_FIXED`, and a token that does
not end the run consumes at least 2 bits. -/
def Obligations.EveryStepMakesProgress : Prop :=
  ∀ s t : State, s.Inv → s.atBoundary → step s = .next t →
    (s.inBits < t.inBits ∨ t.ended = true ∨ (s.phase = .littab ∧ s.litSrc = .fixed ∧ t.phase = .token)) ∧
    (s.phase = .token → t.ended = false → s.inBits + 2 ≤ t.inBits)

/-- R81, R160: every run from reset ends, within `3 + floor((8 * |src| - 16) / 2)` steps for an input of at least 2 bytes
and within 1 step otherwise. The input answers at once: of a real engine this assumes the host's duty of R152 (log 20). -/
def Obligations.RunsEndWithinBound : Prop :=
  ∀ (s : State) (src : List Byte),
    ∃ n t, n ≤ (if 2 ≤ src.length then 3 + (8 * src.length - 16) / 2 else 1) ∧
      Sys2Proof.core.run n (s.hostReset src) = .next t ∧ State.ended t = true

/-- R45, R157: no read-ahead. A step that does not run out of input depends on no byte beyond those it requested. -/
def Obligations.NoReadAhead : Prop :=
  ∀ (s t : State) (src' : List Byte), step s = .next t → t.err ≠ .unexpectedEndOfInput →
    src'.take t.reader.requested = s.reader.src.take t.reader.requested →
    step (withSrc src' s) = .next (withSrc src' t)

/-! ## Faults -/

/-- R128: the faults each operation can raise. -/
def Obligations.FaultsOfEachOperation : Prop :=
  ∀ s t : State, s.Inv → s.atBoundary → step s = .next t → t.phase = .fault →
    (s.phase = .header ∧ (t.err = .unexpectedEndOfInput ∨ t.err = .invalidHeader)) ∨
    (s.phase = .littab ∧ s.litSrc = .stream ∧ (t.err = .unexpectedEndOfInput ∨ t.err = .invalidLiteralTable)) ∨
    (s.phase = .token ∧
      (t.err = .unexpectedEndOfInput ∨
       ((s.reader.nextBit).value? = some true ∧ t.err = .invalidDistance) ∨
       ((s.reader.nextBit).value? = some false ∧ s.litCoded = true ∧ s.litSrc = .stream ∧ t.err = .invalidCode)))

/-- R145: on a `FIXED` engine no run from reset, of any input, reaches `InvalidLiteralTable` or `InvalidCode`, and the other
three kinds are reached; on a `STREAM` engine all five are. -/
def Obligations.FixedReachesThreeFaults : Prop :=
  (∀ (s t : State) (src : List Byte) (n : Nat), s.litSrc = .fixed →
    Sys2Proof.core.run n (s.hostReset src) = .next t →
    State.err t = .none ∨ State.err t = .invalidHeader ∨ State.err t = .invalidDistance ∨
      State.err t = .unexpectedEndOfInput) ∧
  (∀ k : ErrKind, k = .invalidHeader ∨ k = .invalidDistance ∨ k = .unexpectedEndOfInput →
    ∃ (s t : State) (src : List Byte) (n : Nat), s.litSrc = .fixed ∧
      Sys2Proof.core.run n (s.hostReset src) = .next t ∧ State.err t = k) ∧
  (∀ k : ErrKind, k ≠ .none →
    ∃ (s t : State) (src : List Byte) (n : Nat), s.litSrc = .stream ∧
      Sys2Proof.core.run n (s.hostReset src) = .next t ∧ State.err t = k)

/-- R129: where the position stands when a fault is detected. -/
def Obligations.FaultPositions : Prop :=
  ∀ s t : State, s.Inv → s.atBoundary → step s = .next t →
    (t.err = .unexpectedEndOfInput → t.inBits = 8 * s.reader.src.length) ∧
    (t.err = .invalidHeader → t.inBits = 16) ∧
    (t.err = .invalidCode → ∀ lens, s.litLens = some lens → t.inBits = s.inBits + 1 + Huffman.maxlen lens) ∧
    (t.err = .invalidDistance → ∀ c i r, s.expects = .ctx c → decode c s.reader = .ok i r → t.reader = r)

/-- R122: tokens are all-or-nothing. A token that faults emits nothing and consumes the bits read up to the fault. -/
def Obligations.TokensAllOrNothing : Prop :=
  ∀ s t : State, s.Inv → s.phase = .token → s.atBoundary → step s = .next t →
    (t.phase = .fault → t.out = s.out ∧ t.win = s.win ∧ t.produced = s.produced ∧
      ∃ c, s.expects = .ctx c ∧ t.reader = (decode c s.reader).reader) ∧
    (t.phase ≠ .fault → ∃ c i r, s.expects = .ctx c ∧ decode c s.reader = .ok i r ∧
      t.produced = s.produced + emittedCount i.op)

/-- R107: both header bytes are read before either is checked. An input of fewer than two bytes is
`UnexpectedEndOfInput`, whatever its first byte holds; an illegal first byte is reported only after both. -/
def Obligations.ShortHeaderIsEndOfInput : Prop :=
  (∀ (s : State) (src : List Byte), src.length < 2 →
    step (s.hostReset src) =
      .next ({ s.hostReset src with reader := ⟨src, src.length, 0⟩ }.raise .unexpectedEndOfInput
        (.atBit (8 * src.length)))) ∧
  (∀ (s : State) (L D : Byte) (rest : List Byte), 1 < L.toNat →
    step (s.hostReset (L :: D :: rest)) =
      .next ({ s.hostReset (L :: D :: rest) with reader := ⟨L :: D :: rest, 2, 0⟩ }.raise .invalidHeader
        (.header L D)))

/-! ## Header and table instructions -/

/-- R108: a legal header, read whole, sets `lit_coded`, `dict` and the phase; `HDR` and the six legal header rows. -/
def Obligations.LegalHeaderRuns : Prop :=
  ∀ (i : Instr) (L D : Byte) (s : State), i.op = .hdr L D → s.phase = .header → s.field = .none →
    L.toNat ≤ 1 → 4 ≤ D.toNat → D.toNat ≤ 6 →
    exec i s = .next { s with
      reader := s.reader.advance 16
      litCoded := decide (L.toNat = 1)
      dict := BitVec.ofNat 3 D.toNat
      phase := if L.toNat = 1 then .littab else .token }

/-- R62, R108: any other header raises `InvalidHeader` after both bytes and leaves `lit_coded` and `dict`. -/
def Obligations.IllegalHeaderRaises : Prop :=
  ∀ (L D : Byte) (s : State), s.phase = .header → s.field = .none →
    (1 < L.toNat ∨ D.toNat < 4 ∨ 6 < D.toNat) →
    exec (.hdr L D) s = .next { s with
      reader := s.reader.advance 16
      err := .invalidHeader
      phase := .fault
      info := .header L D
      field := .none }

/-- R110: `LITTAB_FIXED` loads the fixed literal table, consumes no bit and goes on to tokens. -/
def Obligations.FixedTableIsLoaded : Prop :=
  ∀ s : State, s.phase = .littab → s.field = .none → s.litSrc = .fixed →
    ∃ cells, exec .littabFixed s = .next { s with litLen := cells, phase := .token } ∧
      (∀ v, v < 256 → cells.read v = some (BitVec.ofNat 4 (litLensFixed.getD v 0))) ∧
      ({ s with litLen := cells, phase := .token } : State).litLens = some litLensFixed

/-- R65, R111 at unit granularity (log 6, log 9): a unit that leaves the table short of 256 symbols. -/
def Obligations.TableUnitAssigns : Prop :=
  ∀ (l r : BitVec 4) (s : State), s.phase = .littab → s.field = .unit → s.ltN + (r.toNat + 1) < 256 →
    ∃ cells, exec (.ltp l r) s =
        .next { s with reader := s.reader.advance 8, litLen := cells, ltN := s.ltN + (r.toNat + 1) } ∧
      ∀ v, cells.read v = if s.ltN ≤ v ∧ v < s.ltN + (r.toNat + 1) then some l else s.litLen.read v

/-- R111, R85 at unit granularity (log 6, log 9): the last unit of a table. It goes on to tokens, or raises
`InvalidLiteralTable` when the count overshoots 256 or the lengths are over-subscribed. -/
def Obligations.LastTableUnitCloses : Prop :=
  ∀ (l r : BitVec 4) (s : State), s.phase = .littab → s.field = .unit → s.ltN < 256 →
    s.litLen.map Prod.fst = List.range s.ltN →
    (s.ltN + (r.toNat + 1) = 256 →
      ∃ cells lens, lens = s.litLen.map (fun c => c.2.toNat) ++ List.replicate (r.toNat + 1) l.toNat ∧
        ({ s with litLen := cells } : State).litLens = some lens ∧
        exec (.ltp l r) s = .next (if Huffman.kraft lens = .over then
          { s with reader := s.reader.advance 8, litLen := cells, ltN := 256, err := .invalidLiteralTable,
                   phase := .fault, info := .overSubscribed, field := .none }
        else { s with reader := s.reader.advance 8, litLen := cells, ltN := 256, phase := .token, field := .none })) ∧
    (256 < s.ltN + (r.toNat + 1) →
      ∃ cells, exec (.ltp l r) s = .next
        { s with reader := s.reader.advance 8, litLen := cells, ltN := s.ltN + (r.toNat + 1), err := .invalidLiteralTable,
                 phase := .fault, info := .assigned (s.ltN + (r.toNat + 1)), field := .none })

/-- R111: one step reads a whole transmitted table. Units that assign exactly 256 lengths load them, and the step goes on
to tokens unless they are over-subscribed; units whose last one overshoots raise `InvalidLiteralTable`; an input that ends
inside the table is `UnexpectedEndOfInput`. -/
def Obligations.TransmittedTableIsLoaded : Prop :=
  ∀ (s : State) (units : List (BitVec 4 × BitVec 4)) (rest : List Bit),
    s.atTable = true → s.litLen = [] → s.reader.bits = unitBits units ++ rest →
    ((unitLens units).length = 256 →
      ∃ t, step s = .next t ∧ t.litLens = some (unitLens units) ∧ t.ltN = 256 ∧
        t.reader = s.reader.advance (8 * units.length) ∧ t.win = s.win ∧ t.out = s.out ∧
        t.litCoded = s.litCoded ∧ t.dict = s.dict ∧
        (if Huffman.kraft (unitLens units) = .over then
          t.phase = .fault ∧ t.err = .invalidLiteralTable ∧ t.info = .overSubscribed
        else t.phase = .token ∧ t.err = s.err ∧ t.info = s.info)) ∧
    (256 < (unitLens units).length → (unitLens units.dropLast).length < 256 →
      ∃ t, step s = .next t ∧ t.phase = .fault ∧ t.err = .invalidLiteralTable ∧
        t.info = .assigned (unitLens units).length ∧ t.ltN = (unitLens units).length ∧
        t.reader = s.reader.advance (8 * units.length) ∧ t.win = s.win ∧ t.out = s.out) ∧
    ((unitLens units).length < 256 → rest.length < 8 →
      ∃ t, step s = .next t ∧ t.phase = .fault ∧ t.err = .unexpectedEndOfInput ∧
        t.info = .atBit (s.inBits + 8 * units.length + rest.length) ∧ t.ltN = (unitLens units).length ∧
        t.reader = s.reader.advance (8 * units.length + rest.length) ∧ t.win = s.win ∧ t.out = s.out)

/-! ## Tokens -/

/-- R113: `LIT_RAW` emits its byte; an input that ends inside its 8 bits is `UnexpectedEndOfInput` and nothing is
emitted. -/
def Obligations.RawLiteralEmits : Prop :=
  ∀ s : State, s.phase = .token → s.field = .none → s.litCoded = false →
    (∀ c : Byte, exec (.litRaw c) s = .next { s with
      reader := s.reader.advance 9
      out := s.out ++ [c]
      win := s.win.write (s.out.length % 4096) c }) ∧
    (∀ rest : List Bit, s.reader.bits = false :: rest → rest.length < 8 →
      step s = .next ((s.advance (1 + rest.length)).raise .unexpectedEndOfInput (.atBit (s.inBits + 1 + rest.length))))

/-- R114: `LIT_CODED` emits its symbol and consumes the control bit and the symbol's code in the loaded table. -/
def Obligations.CodedLiteralEmits : Prop :=
  ∀ (c : Byte) (lens : List Nat) (s : State), s.phase = .token → s.field = .none → s.litCoded = true →
    s.litLens = some lens → lens.getD c.toNat 0 ≠ 0 →
    exec (.litCoded c) s = .next { s with
      reader := s.reader.advance (1 + lens.getD c.toNat 0)
      out := s.out ++ [c]
      win := s.win.write (s.out.length % 4096) c }

/-- R99, R116, R118, R120: a `MATCH` whose distance is not beyond the bytes produced copies `length` bytes one at a time
from `distance` back; everything but the position, the output and the window stays. -/
def Obligations.MatchCopies : Prop :=
  ∀ (sym : Fin 16) (x : Nat) (t : Fin 64) (y : Nat) (s : State),
    s.phase = .token → s.field = .none → (s.litCoded = true → ∃ lens, s.litLens = some lens) →
    4 ≤ s.dict.toNat → s.dict.toNat ≤ 6 → s.WindowHolds →
    x < 2 ^ lenExtra sym → matchLength sym x ≠ 519 → y < 2 ^ distExtra (matchLength sym x) s.dict.toNat →
    distanceAt s (matchLength sym x) t y ≤ s.produced →
    ∃ u, exec (.matchRef sym x t y) s = .next u ∧ u.WindowHolds ∧
      u = { s with
        reader := s.reader.advance (1 + lenLens.getD sym.val 0 + lenExtra sym + distLens.getD t.val 0 +
          distExtra (matchLength sym x) s.dict.toNat)
        out := s.out ++ copied s.out (distanceAt s (matchLength sym x) t y) (matchLength sym x)
        win := u.win }

/-- R100, R119: a `MATCH` whose distance is beyond the bytes produced consumes all its bits, raises `InvalidDistance` and
emits nothing. -/
def Obligations.MatchBeyondOutputRaises : Prop :=
  ∀ (sym : Fin 16) (x : Nat) (t : Fin 64) (y : Nat) (s : State),
    s.phase = .token → s.field = .none → (s.litCoded = true → ∃ lens, s.litLens = some lens) →
    x < 2 ^ lenExtra sym → matchLength sym x ≠ 519 → y < 2 ^ distExtra (matchLength sym x) s.dict.toNat →
    s.produced < distanceAt s (matchLength sym x) t y →
    exec (.matchRef sym x t y) s = .next { s with
      reader := s.reader.advance (1 + lenLens.getD sym.val 0 + lenExtra sym + distLens.getD t.val 0 +
        distExtra (matchLength sym x) s.dict.toNat)
      err := .invalidDistance
      phase := .fault
      info := .distance (distanceAt s (matchLength sym x) t y) s.produced
      field := .none }

/-- R123: `END` consumes 16 bits and the run is done; the output and the window stay. An input that ends inside its 16 bits
is `UnexpectedEndOfInput` and does not reach `DONE`. -/
def Obligations.EndFinishesTheStream : Prop :=
  ∀ s : State, s.phase = .token → s.field = .none → (s.litCoded = true → ∃ lens, s.litLens = some lens) →
    exec .endOfStream s = .next { s with reader := s.reader.advance 16, phase := .done, field := .none } ∧
    (∀ n, n < 16 → s.reader.bits = (true :: (List.replicate 7 false ++ List.replicate 8 true)).take n →
      step s = .next ((s.advance n).raise .unexpectedEndOfInput (.atBit (s.inBits + n))))

/-- The 256 rows `LIT.c` at field granularity (R74, R114; log 6, log 7): the code is consumed, `c` is emitted and the token
ends. -/
def Obligations.LiteralCodeRowsEmit : Prop :=
  ∀ (i : Instr) (c : Byte) (lens : List Nat) (s : State), i.op = .lit c → s.phase = .token → s.field = .lit →
    s.litLens = some lens → lens.getD c.toNat 0 ≠ 0 →
    exec i s = .next { s with
      reader := s.reader.advance (lens.getD c.toNat 0)
      out := s.out ++ [c]
      win := s.win.write (s.out.length % 4096) c
      field := .none }

/-- The 16 rows `LEN.s` at field granularity (R72, R115 to R117; log 6, log 7): the code and its extra bits are consumed;
the length value 519 ends the stream, any other length goes on to the distance code. -/
def Obligations.LengthCodeRowsRun : Prop :=
  ∀ (i : Instr) (sym : Fin 16) (x : Nat) (s : State), i.op = .len sym x → s.phase = .token → s.field = .len →
    x < 2 ^ lenExtra sym →
    exec i s = .next (if lenBase sym + x = 519 then
        { s with reader := s.reader.advance (lenLens.getD sym.val 0 + lenExtra sym), phase := .done, field := .none }
      else { s with
        reader := s.reader.advance (lenLens.getD sym.val 0 + lenExtra sym)
        field := .dist (lenBase sym + x) })

/-- The 64 rows `DIST.t` at field granularity (R73, R118, R99; log 6, log 7): within the bytes produced the match is copied
and the token ends; beyond them `InvalidDistance` is raised and nothing is emitted. -/
def Obligations.DistanceCodeRowsRun : Prop :=
  ∀ (i : Instr) (t : Fin 64) (y length : Nat) (s : State), i.op = .dist t y → s.phase = .token →
    s.field = .dist length → y < 2 ^ distExtra length s.dict.toNat →
    (4 ≤ s.dict.toNat → s.dict.toNat ≤ 6 → s.WindowHolds → distanceAt s length t y ≤ s.produced →
      ∃ u, exec i s = .next u ∧ u.WindowHolds ∧
        u = { s with
          reader := s.reader.advance (distLens.getD t.val 0 + distExtra length s.dict.toNat)
          out := s.out ++ copied s.out (distanceAt s length t y) length
          win := u.win
          field := .none }) ∧
    (s.produced < distanceAt s length t y →
      exec i s = .next { s with
        reader := s.reader.advance (distLens.getD t.val 0 + distExtra length s.dict.toNat)
        err := .invalidDistance
        phase := .fault
        info := .distance (distanceAt s length t y) s.produced
        field := .none })

/-! ## Frames -/

/-- The frame of the literals `LIT_RAW`, `LIT_CODED` and `LIT.c` (R113, R114, R98): one window cell is written, at
`produced mod 4096`; apart from the position, the output and that cell nothing changes, and the token has ended. -/
def Obligations.LiteralFrame : Prop :=
  ∀ (i : Instr) (c : Byte) (s t : State), (i.op = .litRaw c ∨ i.op = .litCoded c ∨ i.op = .lit c) → exec i s = .next t →
    t.phase = s.phase ∧ t.err = s.err ∧ t.info = s.info ∧ t.reader.src = s.reader.src ∧ t.litCoded = s.litCoded ∧
    t.dict = s.dict ∧ t.litLen = s.litLen ∧ t.ltN = s.ltN ∧ t.litSrc = s.litSrc ∧ t.field = .none ∧
    t.out = s.out ++ [c] ∧ t.memRead (s.produced % 4096) = some c ∧
    ∀ a, a ≠ s.produced % 4096 → t.memRead a = s.memRead a

/-- The frame of `MATCH` and `DIST.t` (R99, R130): of the window only the cells of the emitted bytes change, and none on a
fault; the header, table and parameter state never changes, and the fault registers change only on a fault. -/
def Obligations.MatchFrame : Prop :=
  ∀ (i : Instr) (s u : State) (length : Nat),
    ((∃ sym x t y, i.op = .matchRef sym x t y ∧ length = matchLength sym x) ∨
     (∃ t y, i.op = .dist t y ∧ s.field = .dist length)) → exec i s = .next u →
    u.reader.src = s.reader.src ∧ u.litCoded = s.litCoded ∧ u.dict = s.dict ∧ u.litLen = s.litLen ∧ u.ltN = s.ltN ∧
    u.litSrc = s.litSrc ∧ u.field = .none ∧
    ((u.phase = s.phase ∧ u.err = s.err ∧ u.info = s.info ∧ u.out.length = s.out.length + length) ∨
     (u.phase = .fault ∧ u.err = .invalidDistance ∧ u.out = s.out ∧ ∀ a, u.memRead a = s.memRead a)) ∧
    ∀ a, (∀ k, k < length → a ≠ (s.produced + k) % 4096) → u.memRead a = s.memRead a

/-- The frame of the rows that store nothing in the window: `HDR` and its legal rows, `LITTAB_FIXED`, `LTP`, `END` and
`LEN.s` (R108, R110, R111, R116, R123). The clauses on `field` are about the model's own field (log 6), and that `LTP` and
`LEN.s` run alone is the model's choice (log 6, log 7, log 9). -/
def Obligations.NonStoringFrame : Prop :=
  ∀ (i : Instr) (s t : State), exec i s = .next t →
    (∀ L D, i.op = .hdr L D → t.litLen = s.litLen ∧ t.ltN = s.ltN ∧ t.field = .none) ∧
    (i.op = .littabFixed → t.reader = s.reader ∧ t.err = s.err ∧ t.info = s.info ∧ t.litCoded = s.litCoded ∧
      t.dict = s.dict ∧ t.ltN = s.ltN ∧ t.field = s.field) ∧
    (∀ l r, i.op = .ltp l r → t.litCoded = s.litCoded ∧ t.dict = s.dict) ∧
    (i.op = .endOfStream ∨ (∃ sym x, i.op = .len sym x) → t.err = s.err ∧ t.info = s.info ∧ t.litCoded = s.litCoded ∧
      t.dict = s.dict ∧ t.litLen = s.litLen ∧ t.ltN = s.ltN) ∧
    ((∃ L D, i.op = .hdr L D) ∨ i.op = .littabFixed ∨ (∃ l r, i.op = .ltp l r) ∨ i.op = .endOfStream ∨
        (∃ sym x, i.op = .len sym x) →
      t.out = s.out ∧ t.reader.src = s.reader.src ∧ t.litSrc = s.litSrc ∧ ∀ a, t.memRead a = s.memRead a)

/-- An instruction stops by name, and does nothing, where the sequencer would not dispatch it (R105; the model's choice,
log 11). -/
def Obligations.UndispatchedInstructionStops : Prop :=
  ∀ (i : Instr) (s : State) (c : Ctx), s.expects = .ctx c → opFits c i.op = false → exec i s = .fault .notDispatched

/-! ## Window -/

/-- R98: `Emit` appends one byte to the output, writes the window cell `produced mod 4096` and moves `produced` on by one,
nothing else; so the window stays the recent output (R96). -/
def Obligations.EmitKeepsWindow : Prop :=
  ∀ (b : Byte) (s : State),
    (∃ cells, s.emit b = { s with out := s.out ++ [b], win := cells }) ∧ (s.emit b).produced = s.produced + 1 ∧
    (∀ a, (s.emit b).memRead a = if a = s.produced % 4096 then some b else s.memRead a) ∧
    (s.WindowHolds → (s.emit b).WindowHolds)

/-- R101: the physical read `k` bytes back is the byte emitted `k` bytes ago. -/
def Obligations.RingReadIsHistory : Prop :=
  ∀ (s : State) (k : Nat), s.WindowHolds → 1 ≤ k → k ≤ min s.produced 4096 →
    s.memRead ((s.produced - k) % 4096) = some (s.out.getD (s.produced - k) 0)

/-- R99: the check comes before the first read; the copy repeats the last `distance` bytes as a pattern, overlapping or
not, and changes only the output and the window. -/
def Obligations.CopyRepeatsPattern : Prop :=
  ∀ (s : State) (distance length : Nat),
    (s.produced < distance →
      s.copyBack distance length = .next (s.raise .invalidDistance (.distance distance s.produced))) ∧
    (s.WindowHolds → 1 ≤ distance → distance ≤ s.produced → distance ≤ 4096 →
      ∃ u, s.copyBack distance length = .next u ∧ u.WindowHolds ∧
        u = { s with out := s.out ++ copied s.out distance length, win := u.win })

/-- R100: a distance one greater than the bytes produced raises `InvalidDistance`; one equal to them is legal and reads the
first byte of the stream; once `CAP` bytes are produced no decodable distance fails. -/
def Obligations.DistanceCheckBoundary : Prop :=
  ∀ (s : State) (length : Nat),
    (∀ distance, s.produced < distance →
      s.copyBack distance length = .next (s.raise .invalidDistance (.distance distance s.produced))) ∧
    (∀ distance, distance ≤ s.produced → ∀ u, s.copyBack distance length = .next u → u.err = s.err ∧ u.phase = s.phase) ∧
    (s.WindowHolds → 1 ≤ s.produced → s.produced ≤ 4096 → 1 ≤ length →
      ∃ u, s.copyBack s.produced length = .next u ∧ u.err = s.err ∧ u.out[s.produced]? = s.out[0]?) ∧
    (∀ (t : Fin 64) (y : Nat), 4 ≤ s.dict.toNat → s.dict.toNat ≤ 6 → y < 2 ^ distExtra length s.dict.toNat →
      s.capacity ≤ s.produced → distanceAt s length t y ≤ s.produced)

/-- R28: for every decodable distance, comparing with the saturating `fill` gives the same verdict as with `produced`. -/
def Obligations.FillGivesSameVerdict : Prop :=
  ∀ s : State, s.fill = min s.produced 4096 ∧
    ∀ (length : Nat) (t : Fin 64) (y : Nat), 4 ≤ s.dict.toNat → s.dict.toNat ≤ 6 →
      y < 2 ^ distExtra length s.dict.toNat →
      (s.fill < distanceAt s length t y ↔ s.produced < distanceAt s length t y)

/-- R97, R102, R118: a match that goes ahead never reaches further back than `min(produced, CAP)`. -/
def Obligations.MatchStaysInCapacity : Prop :=
  ∀ (sym : Fin 16) (x : Nat) (t : Fin 64) (y : Nat) (s u : State), s.Inv → exec (.matchRef sym x t y) s = .next u →
    u.phase ≠ .fault →
    distanceAt s (matchLength sym x) t y ≤ min s.produced s.capacity ∧
      (s.capacity = 1024 ∨ s.capacity = 2048 ∨ s.capacity = 4096)

/-! ## Field granularity (log 6) -/

/-- A whole match, terminator or coded literal in one step is the same as its fields run one by one, faults included
(R106, R154; the fields are the model's own, log 6). -/
def Obligations.FieldStepsRefineToken : Prop :=
  ∀ (s : State) (b : Bit) (r : BitReader), s.phase = .token → s.field = .none → s.reader.nextBit = .ok b r →
    (s.litCoded = true → ∃ lens, s.litLens = some lens) →
    (b = true → step s = stepThroughMatch { s with reader := r, field := .len }) ∧
    (b = false → s.litCoded = true → step s = step { s with reader := r, field := .lit })

/-! ## Host view -/

/-- R17, R18, R33: the fields of `STATUS`, its reserved bits, and its value after reset. -/
def Obligations.StatusLayout : Prop :=
  (∀ s : State,
    s.status.extractLsb' 0 3 = BitVec.ofNat 3 s.phase.code ∧
    s.status.extractLsb' 3 1 = 0 ∧
    s.status.extractLsb' 4 3 = BitVec.ofNat 3 (errCode s.err) ∧
    s.status.extractLsb' 7 1 = 0 ∧
    s.status.extractLsb' 8 1 = BitVec.ofBool s.litCoded ∧
    s.status.extractLsb' 9 3 = s.dict ∧
    s.status.extractLsb' 12 1 = BitVec.ofBool (s.litSrc == .stream) ∧
    s.status.extractLsb' 13 19 = 0) ∧
  State.reset.status = 0 ∧
  [Phase.header, .littab, .token, .done, .fault].map Phase.code = [0, 1, 2, 3, 4] ∧
  [ErrKind.none, .invalidHeader, .invalidLiteralTable, .invalidCode, .invalidDistance, .unexpectedEndOfInput].map errCode =
    [0, 1, 2, 3, 4, 5]

/-- R34, R35: the register view at every counter width, unmapped numbers, and writes that change nothing. -/
def Obligations.RegisterView : Prop :=
  ∀ (w : Option Nat) (s : State),
    s.readRegAt w 0 = s.status.toNat ∧
    s.readRegAt w 1 = (match w with | none => s.inBits | some k => s.inBits % 2 ^ k) ∧
    s.readRegAt w 2 = (match w with | none => s.out.length | some k => s.out.length % 2 ^ k) ∧
    (∀ n, 3 ≤ n → s.readRegAt w n = 0) ∧ (∀ n v, s.writeReg n v = s)

/-- R37: the value of every piece of state after the host asserts reset, in any state. (`lit_len` and `win`, whose values
R37 leaves unspecified, have none: log 4, log 5.) -/
def Obligations.HostResetValues : Prop :=
  ∀ (src : List Byte) (s : State),
    (s.hostReset src).phase = .header ∧ (s.hostReset src).err = .none ∧
    (s.hostReset src).reader.bytePos = 0 ∧ (s.hostReset src).reader.bitPos = 0 ∧
    (s.hostReset src).litCoded = false ∧ (s.hostReset src).dict = 0 ∧
    (∀ v, (s.hostReset src).litLen.read v = none) ∧ (s.hostReset src).ltN = 0 ∧
    (∀ a, (s.hostReset src).memRead a = none) ∧
    (s.hostReset src).out = [] ∧ (s.hostReset src).produced = 0 ∧
    (s.hostReset src).status = BitVec.ofNat 32 (litSrcCode s.litSrc * 2 ^ 12) ∧ State.reset.status = 0 ∧
    (s.hostReset src).inBits = 0 ∧ (∀ w, (s.hostReset src).readRegAt w 1 = 0 ∧ (s.hostReset src).readRegAt w 2 = 0) ∧
    (s.hostReset src).litSrc = s.litSrc ∧ (s.hostReset src).reader.src = src ∧ (s.hostReset src).halted = false
end

