-- ==== Sys2Proof/Laws/Decode.lean ====
section
/-! SUPPORT. The bit reader against the bit stream, and the names of the rows. -/

namespace Sys2Proof

/-! ## Rows -/

theorem Instr.ofOp_hdr_illegal (L D : Byte) (h : headerLegal L D = false) :
    Instr.ofOp (Instr.hdr L D).op = .hdr L D := by
  have h' : ¬ (L.toNat ≤ 1 ∧ 4 ≤ D.toNat ∧ D.toNat ≤ 6) := by
    simp [headerLegal] at h
    omega
  change Instr.ofHdr L D = _
  unfold Instr.ofHdr
  split <;> first | rfl | exact absurd ⟨by omega, by omega, by omega⟩ h'

/-! ## The reader's position -/

namespace BitReader

@[simp] theorem bump_src (r : BitReader) : r.bump.src = r.src := by
  unfold bump; split <;> rfl

@[simp] theorem bump_inBits (r : BitReader) : r.bump.inBits = r.inBits + 1 := by
  have hq := r.bitPos.isLt
  unfold bump inBits
  split
  · rename_i h
    simp only [h]
    simp
    omega
  · rename_i h
    have h7 : r.bitPos.val ≠ 7 := fun h' => h (Fin.ext h')
    have hv : (r.bitPos + 1).val = r.bitPos.val + 1 := by
      rw [Fin.val_add]
      simp
      omega
    simp only [hv]
    omega

@[simp] theorem advance_zero (r : BitReader) : r.advance 0 = r := rfl

theorem advance_succ (r : BitReader) (n : Nat) : r.advance (n + 1) = r.bump.advance n := rfl

@[simp] theorem advance_src (r : BitReader) (n : Nat) : (r.advance n).src = r.src := by
  induction n generalizing r with
  | zero => rfl
  | succ n ih => rw [advance_succ, ih, bump_src]

@[simp] theorem advance_inBits (r : BitReader) (n : Nat) : (r.advance n).inBits = r.inBits + n := by
  induction n generalizing r with
  | zero => rfl
  | succ n ih => rw [advance_succ, ih, bump_inBits]; omega

theorem advance_add (r : BitReader) (m n : Nat) : r.advance (m + n) = (r.advance m).advance n := by
  induction m generalizing r with
  | zero => simp
  | succ m ih => rw [Nat.succ_add, advance_succ, ih, advance_succ]

/-- A reader is its source and its position. -/
theorem eq_of_inBits {r r' : BitReader} (hs : r.src = r'.src) (hp : r.inBits = r'.inBits) : r = r' := by
  obtain ⟨src, p, q⟩ := r
  obtain ⟨src', p', q'⟩ := r'
  simp only [inBits] at hp
  simp only at hs
  have hq := q.isLt
  have hq' := q'.isLt
  have h1 : p = p' := by omega
  have h2 : q = q' := Fin.ext (by omega)
  subst hs h1 h2
  rfl

/-! ## The stream -/

@[simp] theorem byteBits_length (v : Byte) : (byteBits v).length = 8 := by simp [byteBits]

@[simp] theorem streamBits_nil : streamBits [] = [] := rfl

@[simp] theorem streamBits_cons (v : Byte) (src : List Byte) :
    streamBits (v :: src) = byteBits v ++ streamBits src := rfl

@[simp] theorem streamBits_length (src : List Byte) : (streamBits src).length = 8 * src.length := by
  induction src with
  | nil => rfl
  | cons v src ih => simp [ih]; omega

/-- Bit `8 * i + j` of the stream is bit `j` of byte `i` (R9). -/
theorem streamBits_get (src : List Byte) (i : Nat) (j : Fin 8) :
    (streamBits src)[8 * i + j.val]? = src[i]?.map fun v => v.getLsbD j.val := by
  induction src generalizing i with
  | nil => simp
  | cons v src ih =>
    rw [streamBits_cons]
    have hj := j.isLt
    cases i with
    | zero =>
      rw [List.getElem?_append_left (by simp)]
      simp [byteBits, hj]
    | succ i =>
      rw [List.getElem?_append_right (by simp; omega)]
      have : 8 * (i + 1) + j.val - (byteBits v).length = 8 * i + j.val := by simp; omega
      rw [this, ih]
      simp

theorem bits_length (r : BitReader) : r.bits.length = 8 * r.src.length - r.inBits := by simp [bits]

theorem advance_bits (r : BitReader) (n : Nat) : (r.advance n).bits = r.bits.drop n := by
  simp [bits, List.drop_drop]

theorem bump_bits (r : BitReader) : r.bump.bits = r.bits.drop 1 := advance_bits r 1

/-- The next bit of the stream is the current bit of the current byte. -/
theorem bits_head (r : BitReader) : r.bits[0]? = r.src[r.bytePos]?.map fun v => v.getLsbD r.bitPos.val := by
  simpa [bits, inBits] using streamBits_get r.src r.bytePos r.bitPos

/-- `NextBit` on a stream that goes on (R79). -/
theorem nextBit_cons {r : BitReader} {b : Bit} {rest : List Bit} (h : r.bits = b :: rest) :
    r.nextBit = .ok b r.bump ∧ r.bump.bits = rest := by
  have h0 := bits_head r
  rw [h] at h0
  refine ⟨?_, by rw [bump_bits, h]; rfl⟩
  unfold nextBit
  cases hv : r.src[r.bytePos]? with
  | none => simp [hv] at h0
  | some v => simp [hv] at h0; simp [h0]

/-- `NextBit` on a stream that has ended (R79). -/
theorem nextBit_nil {r : BitReader} (h : r.bits = []) :
    r.nextBit = .bad .unexpectedEndOfInput (.atBit r.inBits) r := by
  have h0 := bits_head r
  rw [h] at h0
  unfold nextBit
  cases hv : r.src[r.bytePos]? with
  | none => rfl
  | some v => simp [hv] at h0

/-- Everything `NextBit` can answer (R79). -/
theorem nextBit_cases (r : BitReader) :
    (∃ b rest, r.bits = b :: rest ∧ r.nextBit = .ok b r.bump) ∨
    (r.bits = [] ∧ r.nextBit = .bad .unexpectedEndOfInput (.atBit r.inBits) r) := by
  cases h : r.bits with
  | nil => exact .inr ⟨rfl, nextBit_nil h⟩
  | cons b rest => exact .inl ⟨b, rest, rfl, (nextBit_cons h).1⟩

end BitReader

/-! ## Reading on -/

@[simp] theorem Read.bind_ok {α β : Type} (a : α) (r : BitReader) (f : α → BitReader → Read β) :
    (Read.ok a r).bind f = f a r := rfl

@[simp] theorem Read.bind_bad {α β : Type} (k : ErrKind) (info : Info) (r : BitReader) (f : α → BitReader → Read β) :
    (Read.bad k info r).bind f = .bad k info r := rfl

/-- What a read that went on and answered was made of. -/
theorem Read.bind_eq_ok {α β : Type} {m : Read α} {f : α → BitReader → Read β} {b : β} {r : BitReader} :
    m.bind f = .ok b r ↔ ∃ a r', m = .ok a r' ∧ f a r' = .ok b r := by
  cases m with
  | ok a r' =>
    refine ⟨fun h => ⟨a, r', rfl, h⟩, ?_⟩
    rintro ⟨a', r'', heq, h⟩
    cases heq
    exact h
  | bad k info r' =>
    refine ⟨fun h => by simp at h, ?_⟩
    rintro ⟨_, _, heq, _⟩
    cases heq

/-- What a read that went on and met a fault was made of. -/
theorem Read.bind_eq_bad {α β : Type} {m : Read α} {f : α → BitReader → Read β} {k : ErrKind} {info : Info}
    {r : BitReader} :
    m.bind f = .bad k info r ↔ m = .bad k info r ∨ ∃ a r', m = .ok a r' ∧ f a r' = .bad k info r := by
  cases m with
  | ok a r' =>
    refine ⟨fun h => .inr ⟨a, r', rfl, h⟩, ?_⟩
    rintro (h | ⟨a', r'', heq, h⟩)
    · cases h
    · cases heq; exact h
  | bad k' info' r' =>
    rw [Read.bind_bad]
    refine ⟨fun h => .inl (by cases h; rfl), ?_⟩
    rintro (h | ⟨_, _, heq, _⟩)
    · cases h; rfl
    · cases heq

end Sys2Proof
end

