-- ==== Sys2Proof/Laws/State.lean ====
section
/-! SUPPORT. One lemma per field per update of the state, and what the recursive updates leave alone. -/

namespace Sys2Proof.Machine.State

@[simp] theorem advance_phase (n : Nat) (s : State) : (s.advance n).phase = s.phase := rfl
@[simp] theorem advance_err (n : Nat) (s : State) : (s.advance n).err = s.err := rfl
@[simp] theorem advance_info (n : Nat) (s : State) : (s.advance n).info = s.info := rfl
@[simp] theorem advance_reader (n : Nat) (s : State) : (s.advance n).reader = s.reader.advance n := rfl
@[simp] theorem advance_litCoded (n : Nat) (s : State) : (s.advance n).litCoded = s.litCoded := rfl
@[simp] theorem advance_dict (n : Nat) (s : State) : (s.advance n).dict = s.dict := rfl
@[simp] theorem advance_litLen (n : Nat) (s : State) : (s.advance n).litLen = s.litLen := rfl
@[simp] theorem advance_ltN (n : Nat) (s : State) : (s.advance n).ltN = s.ltN := rfl
@[simp] theorem advance_win (n : Nat) (s : State) : (s.advance n).win = s.win := rfl
@[simp] theorem advance_out (n : Nat) (s : State) : (s.advance n).out = s.out := rfl
@[simp] theorem advance_litSrc (n : Nat) (s : State) : (s.advance n).litSrc = s.litSrc := rfl
@[simp] theorem advance_field (n : Nat) (s : State) : (s.advance n).field = s.field := rfl

@[simp] theorem raise_phase (k : ErrKind) (i : Info) (s : State) : (s.raise k i).phase = Phase.fault := rfl
@[simp] theorem raise_err (k : ErrKind) (i : Info) (s : State) : (s.raise k i).err = k := rfl
@[simp] theorem raise_info (k : ErrKind) (i : Info) (s : State) : (s.raise k i).info = i := rfl
@[simp] theorem raise_reader (k : ErrKind) (i : Info) (s : State) : (s.raise k i).reader = s.reader := rfl
@[simp] theorem raise_litCoded (k : ErrKind) (i : Info) (s : State) : (s.raise k i).litCoded = s.litCoded := rfl
@[simp] theorem raise_dict (k : ErrKind) (i : Info) (s : State) : (s.raise k i).dict = s.dict := rfl
@[simp] theorem raise_litLen (k : ErrKind) (i : Info) (s : State) : (s.raise k i).litLen = s.litLen := rfl
@[simp] theorem raise_ltN (k : ErrKind) (i : Info) (s : State) : (s.raise k i).ltN = s.ltN := rfl
@[simp] theorem raise_win (k : ErrKind) (i : Info) (s : State) : (s.raise k i).win = s.win := rfl
@[simp] theorem raise_out (k : ErrKind) (i : Info) (s : State) : (s.raise k i).out = s.out := rfl
@[simp] theorem raise_litSrc (k : ErrKind) (i : Info) (s : State) : (s.raise k i).litSrc = s.litSrc := rfl
@[simp] theorem raise_field (k : ErrKind) (i : Info) (s : State) : (s.raise k i).field = Field.none := rfl

@[simp] theorem memWrite_phase (a : Nat) (v : Byte) (s : State) : (s.memWrite a v).phase = s.phase := rfl
@[simp] theorem memWrite_err (a : Nat) (v : Byte) (s : State) : (s.memWrite a v).err = s.err := rfl
@[simp] theorem memWrite_info (a : Nat) (v : Byte) (s : State) : (s.memWrite a v).info = s.info := rfl
@[simp] theorem memWrite_reader (a : Nat) (v : Byte) (s : State) : (s.memWrite a v).reader = s.reader := rfl
@[simp] theorem memWrite_litCoded (a : Nat) (v : Byte) (s : State) : (s.memWrite a v).litCoded = s.litCoded := rfl
@[simp] theorem memWrite_dict (a : Nat) (v : Byte) (s : State) : (s.memWrite a v).dict = s.dict := rfl
@[simp] theorem memWrite_litLen (a : Nat) (v : Byte) (s : State) : (s.memWrite a v).litLen = s.litLen := rfl
@[simp] theorem memWrite_ltN (a : Nat) (v : Byte) (s : State) : (s.memWrite a v).ltN = s.ltN := rfl
@[simp] theorem memWrite_win (a : Nat) (v : Byte) (s : State) : (s.memWrite a v).win = s.win.write a v := rfl
@[simp] theorem memWrite_out (a : Nat) (v : Byte) (s : State) : (s.memWrite a v).out = s.out := rfl
@[simp] theorem memWrite_litSrc (a : Nat) (v : Byte) (s : State) : (s.memWrite a v).litSrc = s.litSrc := rfl
@[simp] theorem memWrite_field (a : Nat) (v : Byte) (s : State) : (s.memWrite a v).field = s.field := rfl

@[simp] theorem emit_phase (b : Byte) (s : State) : (s.emit b).phase = s.phase := rfl
@[simp] theorem emit_err (b : Byte) (s : State) : (s.emit b).err = s.err := rfl
@[simp] theorem emit_info (b : Byte) (s : State) : (s.emit b).info = s.info := rfl
@[simp] theorem emit_reader (b : Byte) (s : State) : (s.emit b).reader = s.reader := rfl
@[simp] theorem emit_litCoded (b : Byte) (s : State) : (s.emit b).litCoded = s.litCoded := rfl
@[simp] theorem emit_dict (b : Byte) (s : State) : (s.emit b).dict = s.dict := rfl
@[simp] theorem emit_litLen (b : Byte) (s : State) : (s.emit b).litLen = s.litLen := rfl
@[simp] theorem emit_ltN (b : Byte) (s : State) : (s.emit b).ltN = s.ltN := rfl
@[simp] theorem emit_win (b : Byte) (s : State) : (s.emit b).win = s.win.write (s.out.length % 4096) b := rfl
@[simp] theorem emit_out (b : Byte) (s : State) : (s.emit b).out = s.out ++ [b] := rfl
@[simp] theorem emit_litSrc (b : Byte) (s : State) : (s.emit b).litSrc = s.litSrc := rfl
@[simp] theorem emit_field (b : Byte) (s : State) : (s.emit b).field = s.field := rfl

@[simp] theorem loadLitLen_phase (lens : List Nat) (s : State) : (s.loadLitLen lens).phase = s.phase := rfl
@[simp] theorem loadLitLen_err (lens : List Nat) (s : State) : (s.loadLitLen lens).err = s.err := rfl
@[simp] theorem loadLitLen_info (lens : List Nat) (s : State) : (s.loadLitLen lens).info = s.info := rfl
@[simp] theorem loadLitLen_reader (lens : List Nat) (s : State) : (s.loadLitLen lens).reader = s.reader := rfl
@[simp] theorem loadLitLen_litCoded (lens : List Nat) (s : State) : (s.loadLitLen lens).litCoded = s.litCoded := rfl
@[simp] theorem loadLitLen_dict (lens : List Nat) (s : State) : (s.loadLitLen lens).dict = s.dict := rfl
@[simp] theorem loadLitLen_litLen (lens : List Nat) (s : State) : (s.loadLitLen lens).litLen = lens.zipIdx.map fun p => (p.2, BitVec.ofNat 4 p.1) := rfl
@[simp] theorem loadLitLen_ltN (lens : List Nat) (s : State) : (s.loadLitLen lens).ltN = s.ltN := rfl
@[simp] theorem loadLitLen_win (lens : List Nat) (s : State) : (s.loadLitLen lens).win = s.win := rfl
@[simp] theorem loadLitLen_out (lens : List Nat) (s : State) : (s.loadLitLen lens).out = s.out := rfl
@[simp] theorem loadLitLen_litSrc (lens : List Nat) (s : State) : (s.loadLitLen lens).litSrc = s.litSrc := rfl
@[simp] theorem loadLitLen_field (lens : List Nat) (s : State) : (s.loadLitLen lens).field = s.field := rfl

@[simp] theorem openTable_phase (s : State) : (s.openTable).phase = s.phase := rfl
@[simp] theorem openTable_err (s : State) : (s.openTable).err = s.err := rfl
@[simp] theorem openTable_info (s : State) : (s.openTable).info = s.info := rfl
@[simp] theorem openTable_reader (s : State) : (s.openTable).reader = s.reader := rfl
@[simp] theorem openTable_litCoded (s : State) : (s.openTable).litCoded = s.litCoded := rfl
@[simp] theorem openTable_dict (s : State) : (s.openTable).dict = s.dict := rfl
@[simp] theorem openTable_litLen (s : State) : (s.openTable).litLen = s.litLen := rfl
@[simp] theorem openTable_ltN (s : State) : (s.openTable).ltN = 0 := rfl
@[simp] theorem openTable_win (s : State) : (s.openTable).win = s.win := rfl
@[simp] theorem openTable_out (s : State) : (s.openTable).out = s.out := rfl
@[simp] theorem openTable_litSrc (s : State) : (s.openTable).litSrc = s.litSrc := rfl
@[simp] theorem openTable_field (s : State) : (s.openTable).field = Field.unit := rfl

@[simp] theorem endStream_phase (s : State) : (s.endStream).phase = Phase.done := rfl
@[simp] theorem endStream_err (s : State) : (s.endStream).err = s.err := rfl
@[simp] theorem endStream_info (s : State) : (s.endStream).info = s.info := rfl
@[simp] theorem endStream_reader (s : State) : (s.endStream).reader = s.reader := rfl
@[simp] theorem endStream_litCoded (s : State) : (s.endStream).litCoded = s.litCoded := rfl
@[simp] theorem endStream_dict (s : State) : (s.endStream).dict = s.dict := rfl
@[simp] theorem endStream_litLen (s : State) : (s.endStream).litLen = s.litLen := rfl
@[simp] theorem endStream_ltN (s : State) : (s.endStream).ltN = s.ltN := rfl
@[simp] theorem endStream_win (s : State) : (s.endStream).win = s.win := rfl
@[simp] theorem endStream_out (s : State) : (s.endStream).out = s.out := rfl
@[simp] theorem endStream_litSrc (s : State) : (s.endStream).litSrc = s.litSrc := rfl
@[simp] theorem endStream_field (s : State) : (s.endStream).field = Field.none := rfl

@[simp] theorem hostReset_phase (src : List Byte) (s : State) : (s.hostReset src).phase = Phase.header := rfl
@[simp] theorem hostReset_err (src : List Byte) (s : State) : (s.hostReset src).err = ErrKind.none := rfl
@[simp] theorem hostReset_info (src : List Byte) (s : State) : (s.hostReset src).info = Info.none := rfl
@[simp] theorem hostReset_reader (src : List Byte) (s : State) : (s.hostReset src).reader = ⟨src, 0, 0⟩ := rfl
@[simp] theorem hostReset_litCoded (src : List Byte) (s : State) : (s.hostReset src).litCoded = false := rfl
@[simp] theorem hostReset_dict (src : List Byte) (s : State) : (s.hostReset src).dict = 0 := rfl
@[simp] theorem hostReset_litLen (src : List Byte) (s : State) : (s.hostReset src).litLen = [] := rfl
@[simp] theorem hostReset_ltN (src : List Byte) (s : State) : (s.hostReset src).ltN = 0 := rfl
@[simp] theorem hostReset_win (src : List Byte) (s : State) : (s.hostReset src).win = [] := rfl
@[simp] theorem hostReset_out (src : List Byte) (s : State) : (s.hostReset src).out = [] := rfl
@[simp] theorem hostReset_litSrc (src : List Byte) (s : State) : (s.hostReset src).litSrc = s.litSrc := rfl
@[simp] theorem hostReset_field (src : List Byte) (s : State) : (s.hostReset src).field = Field.none := rfl

/-! ## `assignLens` (R111) -/

@[simp] theorem assignLens_phase (l : BitVec 4) (n : Nat) (s : State) : (s.assignLens l n).phase = s.phase := by
  induction n generalizing s with
  | zero => rfl
  | succ n ih => exact ih _

@[simp] theorem assignLens_err (l : BitVec 4) (n : Nat) (s : State) : (s.assignLens l n).err = s.err := by
  induction n generalizing s with
  | zero => rfl
  | succ n ih => exact ih _

@[simp] theorem assignLens_info (l : BitVec 4) (n : Nat) (s : State) : (s.assignLens l n).info = s.info := by
  induction n generalizing s with
  | zero => rfl
  | succ n ih => exact ih _

@[simp] theorem assignLens_reader (l : BitVec 4) (n : Nat) (s : State) : (s.assignLens l n).reader = s.reader := by
  induction n generalizing s with
  | zero => rfl
  | succ n ih => exact ih _

@[simp] theorem assignLens_litCoded (l : BitVec 4) (n : Nat) (s : State) : (s.assignLens l n).litCoded = s.litCoded := by
  induction n generalizing s with
  | zero => rfl
  | succ n ih => exact ih _

@[simp] theorem assignLens_dict (l : BitVec 4) (n : Nat) (s : State) : (s.assignLens l n).dict = s.dict := by
  induction n generalizing s with
  | zero => rfl
  | succ n ih => exact ih _

@[simp] theorem assignLens_win (l : BitVec 4) (n : Nat) (s : State) : (s.assignLens l n).win = s.win := by
  induction n generalizing s with
  | zero => rfl
  | succ n ih => exact ih _

@[simp] theorem assignLens_out (l : BitVec 4) (n : Nat) (s : State) : (s.assignLens l n).out = s.out := by
  induction n generalizing s with
  | zero => rfl
  | succ n ih => exact ih _

@[simp] theorem assignLens_litSrc (l : BitVec 4) (n : Nat) (s : State) : (s.assignLens l n).litSrc = s.litSrc := by
  induction n generalizing s with
  | zero => rfl
  | succ n ih => exact ih _

@[simp] theorem assignLens_field (l : BitVec 4) (n : Nat) (s : State) : (s.assignLens l n).field = s.field := by
  induction n generalizing s with
  | zero => rfl
  | succ n ih => exact ih _

@[simp] theorem assignLens_ltN (l : BitVec 4) (n : Nat) (s : State) : (s.assignLens l n).ltN = s.ltN + n := by
  induction n generalizing s with
  | zero => rfl
  | succ n ih => rw [assignLens, ih]; simp only []; omega

/-! ## Functions of the state -/

@[simp] theorem advance_inBits (n : Nat) (s : State) : (s.advance n).inBits = s.inBits + n := by
  simp [inBits]

@[simp] theorem emit_produced (b : Byte) (s : State) : (s.emit b).produced = s.produced + 1 := by
  simp [produced]

@[simp] theorem raise_produced (k : ErrKind) (i : Info) (s : State) : (s.raise k i).produced = s.produced := rfl

@[simp] theorem advance_produced (n : Nat) (s : State) : (s.advance n).produced = s.produced := rfl

end Sys2Proof.Machine.State
end

