-- ==== Sys2Proof/Laws/Ops.lean ====
section
/-! SUPPORT. Cells: read after write, and the canonical form that every write keeps; the window's operations. -/

namespace Sys2Proof.Machine

namespace Cells

variable {α : Type}

@[simp] theorem read_nil (a : Nat) : Cells.read ([] : Cells α) a = none := rfl

/-- A read after a write gives the value written, and every other cell as before. -/
theorem read_write (m : Cells α) (a b : Nat) (v : α) :
    Cells.read (Cells.write m a v) b = if b = a then some v else Cells.read m b := by
  induction m with
  | nil =>
    simp only [Cells.write, Cells.read, eq_comm]
  | cons c cs ih =>
    simp only [Cells.write]
    split
    · simp only [Cells.read, eq_comm]
    · split
      · rename_i h1 h2
        subst h2
        simp only [Cells.read]
        by_cases h : b = c.1 <;> simp [h, eq_comm]
      · rename_i h1 h2
        simp only [Cells.read, ih]
        by_cases h : b = a
        · subst h; simp [Ne.symm h2]
        · simp [h]

/-- The cells a write lists are those listed before and the one written. -/
theorem mem_write {m : Cells α} {a : Nat} {v : α} {c : Nat × α} (h : c ∈ Cells.write m a v) :
    c = (a, v) ∨ c ∈ m := by
  induction m with
  | nil => simpa [Cells.write] using h
  | cons d ds ih =>
    simp only [Cells.write] at h
    split at h
    · simpa using h
    · split at h
      · rcases List.mem_cons.1 h with h | h
        · exact .inl h
        · exact .inr (List.mem_cons_of_mem _ h)
      · rcases List.mem_cons.1 h with h | h
        · exact .inr (by simp [h])
        · exact (ih h).imp id (List.mem_cons_of_mem _)

/-- A write keeps the numbers strictly rising. -/
theorem write_rising {m : Cells α} (a : Nat) (v : α) (h : (m.map Prod.fst).Pairwise (· < ·)) :
    ((Cells.write m a v).map Prod.fst).Pairwise (· < ·) := by
  induction m with
  | nil => simp [Cells.write]
  | cons c cs ih =>
    simp only [List.map_cons, List.pairwise_cons] at h
    simp only [Cells.write]
    split
    · rename_i hlt
      simp only [List.map_cons, List.pairwise_cons]
      refine ⟨?_, h⟩
      intro x hx
      rcases List.mem_cons.1 hx with hx | hx
      · omega
      · have := h.1 x hx; omega
    · split
      · rename_i h2
        subst h2
        simpa using h
      · rename_i h1 h2
        simp only [List.map_cons, List.pairwise_cons]
        refine ⟨?_, ih h.2⟩
        intro x hx
        obtain ⟨d, hd, rfl⟩ := List.mem_map.1 hx
        rcases mem_write hd with rfl | hd
        · simp only; omega
        · exact h.1 _ (List.mem_map_of_mem hd)

/-- The canonical form is kept by every write inside the storage. -/
theorem write_wf {m : Cells α} {size a : Nat} {v : α} (ha : a < size) (h : Cells.wf size m) :
    Cells.wf size (Cells.write m a v) := by
  refine ⟨write_rising a v h.1, ?_⟩
  intro c hc
  rcases mem_write hc with rfl | hc
  · exact ha
  · exact h.2 _ hc

theorem wf_nil (size : Nat) : Cells.wf size ([] : Cells α) := ⟨by simp, by simp⟩

end Cells

namespace State

/-! ## Every operation keeps the canonical form of the window and of `lit_len` -/

theorem emit_win_wf (b : Byte) (s : State) (h : s.win.wf 4096) : (s.emit b).win.wf 4096 :=
  Cells.write_wf (Nat.mod_lt _ (by decide)) h

theorem assignLens_litLen_wf (l : BitVec 4) (n : Nat) (s : State) (h : s.litLen.wf 256) :
    (s.assignLens l n).litLen.wf 256 := by
  induction n generalizing s with
  | zero => exact h
  | succ n ih =>
    apply ih
    simp only
    split
    · exact Cells.write_wf (by assumption) h
    · exact h

theorem copyBytes_win_wf {distance length : Nat} {s t : State} (h : s.win.wf 4096)
    (ht : s.copyBytes distance length = some t) : t.win.wf 4096 := by
  induction length generalizing s with
  | zero => cases ht; exact h
  | succ n ih =>
    unfold copyBytes at ht
    split at ht
    · cases ht
    · exact ih (emit_win_wf _ _ h) ht

theorem loadLitLen_litLen_wf (lens : List Nat) (s : State) (h : lens.length ≤ 256) :
    (s.loadLitLen lens).litLen.wf 256 := by
  refine ⟨?_, ?_⟩
  · have : (s.loadLitLen lens).litLen.map Prod.fst = List.range lens.length := by
      rw [loadLitLen_litLen, List.map_map, List.range_eq_range']
      exact List.zipIdx_map_snd 0 lens
    rw [this]
    exact List.pairwise_lt_range
  · intro c hc
    simp only [loadLitLen_litLen, List.mem_map] at hc
    obtain ⟨p, hp, rfl⟩ := hc
    have := List.snd_lt_of_mem_zipIdx hp
    simp only
    omega

theorem reset_mem_wf : State.reset.win.wf 4096 ∧ State.reset.litLen.wf 256 :=
  ⟨Cells.wf_nil _, Cells.wf_nil _⟩

/-! ## What `Emit`, the copy and `CopyBack` do -/

/-- `Emit` writes one cell (R98). -/
theorem emit_memRead (b : Byte) (s : State) (a : Nat) :
    (s.emit b).memRead a = if a = s.produced % 4096 then some b else s.memRead a :=
  Cells.read_write _ _ _ _

/-- A copy touches the output and the window only (R99). -/
theorem copyBytes_frame {distance length : Nat} {s t : State} (h : s.copyBytes distance length = some t) :
    t = { s with out := t.out, win := t.win } ∧ t.out.length = s.out.length + length := by
  induction length generalizing s with
  | zero => cases h; exact ⟨rfl, rfl⟩
  | succ n ih =>
    unfold copyBytes at h
    split at h
    · cases h
    · obtain ⟨h1, h2⟩ := ih h
      refine ⟨?_, ?_⟩
      · rw [h1]; rfl
      · rw [h2]; simp; omega

/-- Everything `CopyBack` can answer (R99, R100). -/
theorem copyBack_cases (distance length : Nat) (s : State) :
    (s.produced < distance ∧
      s.copyBack distance length = .next (s.raise .invalidDistance (.distance distance s.produced))) ∨
    (distance ≤ s.produced ∧
      ((∃ t, s.copyBytes distance length = some t ∧ s.copyBack distance length = .next t) ∨
       (s.copyBytes distance length = none ∧ s.copyBack distance length = .fault .windowUnwritten))) := by
  unfold copyBack
  by_cases hd : s.produced < distance
  · exact .inl ⟨hd, by simp [hd]⟩
  · refine .inr ⟨by omega, ?_⟩
    cases h : s.copyBytes distance length with
    | none => exact .inr ⟨rfl, by simp [hd]⟩
    | some t => exact .inl ⟨t, rfl, by simp [hd]⟩

/-- Everything the end of a table unit can answer (R111). -/
theorem closeTable_cases (s : State) :
    (s.ltN < 256 ∧ s.closeTable = .next s) ∨
    (256 < s.ltN ∧ s.closeTable = .next (s.raise .invalidLiteralTable (.assigned s.ltN))) ∨
    (s.ltN = 256 ∧
      ((s.litLens = none ∧ s.closeTable = .fault .litLenUnwritten) ∨
       (∃ lens, s.litLens = some lens ∧ Huffman.kraft lens = .over ∧
          s.closeTable = .next (s.raise .invalidLiteralTable .overSubscribed)) ∨
       (∃ lens, s.litLens = some lens ∧ Huffman.kraft lens ≠ .over ∧
          s.closeTable = .next { s with phase := .token, field := .none }))) := by
  unfold closeTable
  rcases Nat.lt_trichotomy s.ltN 256 with h | h | h
  · exact .inl ⟨h, by simp [h]⟩
  · refine .inr (.inr ⟨h, ?_⟩)
    cases hl : s.litLens with
    | none => exact .inl ⟨rfl, by simp [h]⟩
    | some lens =>
      by_cases hk : Huffman.kraft lens = .over
      · exact .inr (.inl ⟨lens, rfl, hk, by simp [h, hk]⟩)
      · exact .inr (.inr ⟨lens, rfl, hk, by simp [h, hk]⟩)
  · exact .inr (.inl ⟨h, by rw [if_neg (by omega), if_pos (by omega)]⟩)

end State

end Sys2Proof.Machine
end

