-- ==== Sys2Proof/Laws/Exec.lean ====
section
/-! SUPPORT. `exec` by operation: the 349 arms gathered into the ten operations, and everything a meaning can answer. -/

namespace Sys2Proof.Machine

/-- The meaning of an operation, as the arms of `exec` have it. -/
def runOp (op : Op) (s : State) : Host.Outcome State Fault Refusal :=
  match op with
  | .hdr L D => runHdr L D s
  | .littabFixed => execLittabFixed s
  | .ltp l r => execLtp l r s
  | .litRaw c => execLitRaw c s
  | .litCoded c => execLitCoded c s
  | .matchRef sym x t y => execMatchRef sym x t y s
  | .endOfStream => execEndOfStream s
  | .len sym x => runLen sym x s
  | .dist t y => runDist t y s
  | .lit c => runLit c s

/-- `exec` runs the operation its instruction stands for. -/
theorem exec_eq_runOp (i : Instr) (s : State) : exec i s = runOp i.op s := by
  cases i <;> rfl

/-- Everything `runWhen` can answer. -/
theorem runWhen_cases (op : Op) (s : State) (k : Ctx → State → Host.Outcome State Fault Refusal) :
    (∃ f, s.expects = .stop f ∧ runWhen op s k = .fault f) ∨
    (∃ c, s.expects = .ctx c ∧ opFits c op = false ∧ runWhen op s k = .fault .notDispatched) ∨
    (∃ c, s.expects = .ctx c ∧ opFits c op = true ∧ runWhen op s k = k c (s.advance (opWidth c op))) := by
  unfold runWhen
  cases h : s.expects with
  | stop f => exact .inl ⟨f, rfl, rfl⟩
  | ctx c =>
    cases hf : opFits c op with
    | false => exact .inr (.inl ⟨c, rfl, hf, by simp [hf]⟩)
    | true => exact .inr (.inr ⟨c, rfl, hf, by simp [hf]⟩)

/-- An operation that can stand at the state's context runs its effect past its bits. -/
theorem runWhen_of_fits {op : Op} {s : State} {c : Ctx} (k : Ctx → State → Host.Outcome State Fault Refusal)
    (h : s.expects = .ctx c) (hf : opFits c op = true) : runWhen op s k = k c (s.advance (opWidth c op)) := by
  simp [runWhen, h, hf]

/-- Everything one item's step can answer (R126, R130). -/
theorem stepItem_cases (s : State) :
    (∃ f, s.expects = .stop f ∧ stepItem s = .fault f) ∨
    (∃ c i r, s.expects = .ctx c ∧ decode c s.reader = .ok i r ∧ stepItem s = exec i s) ∨
    (∃ c k info r, s.expects = .ctx c ∧ decode c s.reader = .bad k info r ∧
      stepItem s = .next ({ s with reader := r }.raise k info)) := by
  unfold stepItem
  cases h : s.expects with
  | stop f => exact .inl ⟨f, rfl, rfl⟩
  | ctx c =>
    cases hd : decode c s.reader with
    | ok i r => exact .inr (.inl ⟨c, i, r, rfl, hd, by simp [hd]⟩)
    | bad k info r => exact .inr (.inr ⟨c, k, info, r, rfl, hd, by simp [hd]⟩)

/-- A step outside the start of a transmitted table is one item. -/
theorem step_of_not_atTable {s : State} (h : s.atTable = false) : step s = stepItem s := by
  simp [step, stepOperation, h]

end Sys2Proof.Machine
end

