-- ==== Sys2Proof/Laws/PerInstr.lean ====
section
/-! SUPPORT. Statements made per instruction.
Family OpName: an instruction is the canonical spelling of its operation, so no two constructors other than `hdr`
stand for the same operation and operands. -/

namespace Sys2Proof.Laws.OpName

/-- `Instr.ofOp` gives a constructor back from its operation. For `hdr` that holds off the six legal headers, which have
constructors of their own (log 12). -/
def Statement (i : Instr) : Prop :=
  match i with
  | .hdr L D => headerLegal L D = false → Instr.ofOp (Instr.hdr L D).op = .hdr L D
  | j => Instr.ofOp j.op = j

theorem hdr (L D : Byte) : Statement (.hdr L D) := fun h => Instr.ofOp_hdr_illegal L D h
theorem hdrRaw4 : Statement (.hdrRaw4) := rfl
theorem hdrRaw5 : Statement (.hdrRaw5) := rfl
theorem hdrRaw6 : Statement (.hdrRaw6) := rfl
theorem hdrCoded4 : Statement (.hdrCoded4) := rfl
theorem hdrCoded5 : Statement (.hdrCoded5) := rfl
theorem hdrCoded6 : Statement (.hdrCoded6) := rfl
theorem littabFixed : Statement (.littabFixed) := rfl
theorem ltp (l r : BitVec 4) : Statement (.ltp l r) := rfl
theorem litRaw (c : Byte) : Statement (.litRaw c) := rfl
theorem litCoded (c : Byte) : Statement (.litCoded c) := rfl
theorem matchRef (sym : Fin 16) (x : Nat) (t : Fin 64) (y : Nat) : Statement (.matchRef sym x t y) := rfl
theorem endOfStream : Statement (.endOfStream) := rfl
theorem len0 : Statement (.len0) := rfl
theorem len1 : Statement (.len1) := rfl
theorem len2 : Statement (.len2) := rfl
theorem len3 : Statement (.len3) := rfl
theorem len4 : Statement (.len4) := rfl
theorem len5 : Statement (.len5) := rfl
theorem len6 : Statement (.len6) := rfl
theorem len7 : Statement (.len7) := rfl
theorem len8 (x : Nat) : Statement (.len8 x) := rfl
theorem len9 (x : Nat) : Statement (.len9 x) := rfl
theorem len10 (x : Nat) : Statement (.len10 x) := rfl
theorem len11 (x : Nat) : Statement (.len11 x) := rfl
theorem len12 (x : Nat) : Statement (.len12 x) := rfl
theorem len13 (x : Nat) : Statement (.len13 x) := rfl
theorem len14 (x : Nat) : Statement (.len14 x) := rfl
theorem len15 (x : Nat) : Statement (.len15 x) := rfl
theorem dist0 (y : Nat) : Statement (.dist0 y) := rfl
theorem dist1 (y : Nat) : Statement (.dist1 y) := rfl
theorem dist2 (y : Nat) : Statement (.dist2 y) := rfl
theorem dist3 (y : Nat) : Statement (.dist3 y) := rfl
theorem dist4 (y : Nat) : Statement (.dist4 y) := rfl
theorem dist5 (y : Nat) : Statement (.dist5 y) := rfl
theorem dist6 (y : Nat) : Statement (.dist6 y) := rfl
theorem dist7 (y : Nat) : Statement (.dist7 y) := rfl
theorem dist8 (y : Nat) : Statement (.dist8 y) := rfl
theorem dist9 (y : Nat) : Statement (.dist9 y) := rfl
theorem dist10 (y : Nat) : Statement (.dist10 y) := rfl
theorem dist11 (y : Nat) : Statement (.dist11 y) := rfl
theorem dist12 (y : Nat) : Statement (.dist12 y) := rfl
theorem dist13 (y : Nat) : Statement (.dist13 y) := rfl
theorem dist14 (y : Nat) : Statement (.dist14 y) := rfl
theorem dist15 (y : Nat) : Statement (.dist15 y) := rfl
theorem dist16 (y : Nat) : Statement (.dist16 y) := rfl
theorem dist17 (y : Nat) : Statement (.dist17 y) := rfl
theorem dist18 (y : Nat) : Statement (.dist18 y) := rfl
theorem dist19 (y : Nat) : Statement (.dist19 y) := rfl
theorem dist20 (y : Nat) : Statement (.dist20 y) := rfl
theorem dist21 (y : Nat) : Statement (.dist21 y) := rfl
theorem dist22 (y : Nat) : Statement (.dist22 y) := rfl
theorem dist23 (y : Nat) : Statement (.dist23 y) := rfl
theorem dist24 (y : Nat) : Statement (.dist24 y) := rfl
theorem dist25 (y : Nat) : Statement (.dist25 y) := rfl
theorem dist26 (y : Nat) : Statement (.dist26 y) := rfl
theorem dist27 (y : Nat) : Statement (.dist27 y) := rfl
theorem dist28 (y : Nat) : Statement (.dist28 y) := rfl
theorem dist29 (y : Nat) : Statement (.dist29 y) := rfl
theorem dist30 (y : Nat) : Statement (.dist30 y) := rfl
theorem dist31 (y : Nat) : Statement (.dist31 y) := rfl
theorem dist32 (y : Nat) : Statement (.dist32 y) := rfl
theorem dist33 (y : Nat) : Statement (.dist33 y) := rfl
theorem dist34 (y : Nat) : Statement (.dist34 y) := rfl
theorem dist35 (y : Nat) : Statement (.dist35 y) := rfl
theorem dist36 (y : Nat) : Statement (.dist36 y) := rfl
theorem dist37 (y : Nat) : Statement (.dist37 y) := rfl
theorem dist38 (y : Nat) : Statement (.dist38 y) := rfl
theorem dist39 (y : Nat) : Statement (.dist39 y) := rfl
theorem dist40 (y : Nat) : Statement (.dist40 y) := rfl
theorem dist41 (y : Nat) : Statement (.dist41 y) := rfl
theorem dist42 (y : Nat) : Statement (.dist42 y) := rfl
theorem dist43 (y : Nat) : Statement (.dist43 y) := rfl
theorem dist44 (y : Nat) : Statement (.dist44 y) := rfl
theorem dist45 (y : Nat) : Statement (.dist45 y) := rfl
theorem dist46 (y : Nat) : Statement (.dist46 y) := rfl
theorem dist47 (y : Nat) : Statement (.dist47 y) := rfl
theorem dist48 (y : Nat) : Statement (.dist48 y) := rfl
theorem dist49 (y : Nat) : Statement (.dist49 y) := rfl
theorem dist50 (y : Nat) : Statement (.dist50 y) := rfl
theorem dist51 (y : Nat) : Statement (.dist51 y) := rfl
theorem dist52 (y : Nat) : Statement (.dist52 y) := rfl
theorem dist53 (y : Nat) : Statement (.dist53 y) := rfl
theorem dist54 (y : Nat) : Statement (.dist54 y) := rfl
theorem dist55 (y : Nat) : Statement (.dist55 y) := rfl
theorem dist56 (y : Nat) : Statement (.dist56 y) := rfl
theorem dist57 (y : Nat) : Statement (.dist57 y) := rfl
theorem dist58 (y : Nat) : Statement (.dist58 y) := rfl
theorem dist59 (y : Nat) : Statement (.dist59 y) := rfl
theorem dist60 (y : Nat) : Statement (.dist60 y) := rfl
theorem dist61 (y : Nat) : Statement (.dist61 y) := rfl
theorem dist62 (y : Nat) : Statement (.dist62 y) := rfl
theorem dist63 (y : Nat) : Statement (.dist63 y) := rfl
theorem lit0 : Statement (.lit0) := rfl
theorem lit1 : Statement (.lit1) := rfl
theorem lit2 : Statement (.lit2) := rfl
theorem lit3 : Statement (.lit3) := rfl
theorem lit4 : Statement (.lit4) := rfl
theorem lit5 : Statement (.lit5) := rfl
theorem lit6 : Statement (.lit6) := rfl
theorem lit7 : Statement (.lit7) := rfl
theorem lit8 : Statement (.lit8) := rfl
theorem lit9 : Statement (.lit9) := rfl
theorem lit10 : Statement (.lit10) := rfl
theorem lit11 : Statement (.lit11) := rfl
theorem lit12 : Statement (.lit12) := rfl
theorem lit13 : Statement (.lit13) := rfl
theorem lit14 : Statement (.lit14) := rfl
theorem lit15 : Statement (.lit15) := rfl
theorem lit16 : Statement (.lit16) := rfl
theorem lit17 : Statement (.lit17) := rfl
theorem lit18 : Statement (.lit18) := rfl
theorem lit19 : Statement (.lit19) := rfl
theorem lit20 : Statement (.lit20) := rfl
theorem lit21 : Statement (.lit21) := rfl
theorem lit22 : Statement (.lit22) := rfl
theorem lit23 : Statement (.lit23) := rfl
theorem lit24 : Statement (.lit24) := rfl
theorem lit25 : Statement (.lit25) := rfl
theorem lit26 : Statement (.lit26) := rfl
theorem lit27 : Statement (.lit27) := rfl
theorem lit28 : Statement (.lit28) := rfl
theorem lit29 : Statement (.lit29) := rfl
theorem lit30 : Statement (.lit30) := rfl
theorem lit31 : Statement (.lit31) := rfl
theorem lit32 : Statement (.lit32) := rfl
theorem lit33 : Statement (.lit33) := rfl
theorem lit34 : Statement (.lit34) := rfl
theorem lit35 : Statement (.lit35) := rfl
theorem lit36 : Statement (.lit36) := rfl
theorem lit37 : Statement (.lit37) := rfl
theorem lit38 : Statement (.lit38) := rfl
theorem lit39 : Statement (.lit39) := rfl
theorem lit40 : Statement (.lit40) := rfl
theorem lit41 : Statement (.lit41) := rfl
theorem lit42 : Statement (.lit42) := rfl
theorem lit43 : Statement (.lit43) := rfl
theorem lit44 : Statement (.lit44) := rfl
theorem lit45 : Statement (.lit45) := rfl
theorem lit46 : Statement (.lit46) := rfl
theorem lit47 : Statement (.lit47) := rfl
theorem lit48 : Statement (.lit48) := rfl
theorem lit49 : Statement (.lit49) := rfl
theorem lit50 : Statement (.lit50) := rfl
theorem lit51 : Statement (.lit51) := rfl
theorem lit52 : Statement (.lit52) := rfl
theorem lit53 : Statement (.lit53) := rfl
theorem lit54 : Statement (.lit54) := rfl
theorem lit55 : Statement (.lit55) := rfl
theorem lit56 : Statement (.lit56) := rfl
theorem lit57 : Statement (.lit57) := rfl
theorem lit58 : Statement (.lit58) := rfl
theorem lit59 : Statement (.lit59) := rfl
theorem lit60 : Statement (.lit60) := rfl
theorem lit61 : Statement (.lit61) := rfl
theorem lit62 : Statement (.lit62) := rfl
theorem lit63 : Statement (.lit63) := rfl
theorem lit64 : Statement (.lit64) := rfl
theorem lit65 : Statement (.lit65) := rfl
theorem lit66 : Statement (.lit66) := rfl
theorem lit67 : Statement (.lit67) := rfl
theorem lit68 : Statement (.lit68) := rfl
theorem lit69 : Statement (.lit69) := rfl
theorem lit70 : Statement (.lit70) := rfl
theorem lit71 : Statement (.lit71) := rfl
theorem lit72 : Statement (.lit72) := rfl
theorem lit73 : Statement (.lit73) := rfl
theorem lit74 : Statement (.lit74) := rfl
theorem lit75 : Statement (.lit75) := rfl
theorem lit76 : Statement (.lit76) := rfl
theorem lit77 : Statement (.lit77) := rfl
theorem lit78 : Statement (.lit78) := rfl
theorem lit79 : Statement (.lit79) := rfl
theorem lit80 : Statement (.lit80) := rfl
theorem lit81 : Statement (.lit81) := rfl
theorem lit82 : Statement (.lit82) := rfl
theorem lit83 : Statement (.lit83) := rfl
theorem lit84 : Statement (.lit84) := rfl
theorem lit85 : Statement (.lit85) := rfl
theorem lit86 : Statement (.lit86) := rfl
theorem lit87 : Statement (.lit87) := rfl
theorem lit88 : Statement (.lit88) := rfl
theorem lit89 : Statement (.lit89) := rfl
theorem lit90 : Statement (.lit90) := rfl
theorem lit91 : Statement (.lit91) := rfl
theorem lit92 : Statement (.lit92) := rfl
theorem lit93 : Statement (.lit93) := rfl
theorem lit94 : Statement (.lit94) := rfl
theorem lit95 : Statement (.lit95) := rfl
theorem lit96 : Statement (.lit96) := rfl
theorem lit97 : Statement (.lit97) := rfl
theorem lit98 : Statement (.lit98) := rfl
theorem lit99 : Statement (.lit99) := rfl
theorem lit100 : Statement (.lit100) := rfl
theorem lit101 : Statement (.lit101) := rfl
theorem lit102 : Statement (.lit102) := rfl
theorem lit103 : Statement (.lit103) := rfl
theorem lit104 : Statement (.lit104) := rfl
theorem lit105 : Statement (.lit105) := rfl
theorem lit106 : Statement (.lit106) := rfl
theorem lit107 : Statement (.lit107) := rfl
theorem lit108 : Statement (.lit108) := rfl
theorem lit109 : Statement (.lit109) := rfl
theorem lit110 : Statement (.lit110) := rfl
theorem lit111 : Statement (.lit111) := rfl
theorem lit112 : Statement (.lit112) := rfl
theorem lit113 : Statement (.lit113) := rfl
theorem lit114 : Statement (.lit114) := rfl
theorem lit115 : Statement (.lit115) := rfl
theorem lit116 : Statement (.lit116) := rfl
theorem lit117 : Statement (.lit117) := rfl
theorem lit118 : Statement (.lit118) := rfl
theorem lit119 : Statement (.lit119) := rfl
theorem lit120 : Statement (.lit120) := rfl
theorem lit121 : Statement (.lit121) := rfl
theorem lit122 : Statement (.lit122) := rfl
theorem lit123 : Statement (.lit123) := rfl
theorem lit124 : Statement (.lit124) := rfl
theorem lit125 : Statement (.lit125) := rfl
theorem lit126 : Statement (.lit126) := rfl
theorem lit127 : Statement (.lit127) := rfl
theorem lit128 : Statement (.lit128) := rfl
theorem lit129 : Statement (.lit129) := rfl
theorem lit130 : Statement (.lit130) := rfl
theorem lit131 : Statement (.lit131) := rfl
theorem lit132 : Statement (.lit132) := rfl
theorem lit133 : Statement (.lit133) := rfl
theorem lit134 : Statement (.lit134) := rfl
theorem lit135 : Statement (.lit135) := rfl
theorem lit136 : Statement (.lit136) := rfl
theorem lit137 : Statement (.lit137) := rfl
theorem lit138 : Statement (.lit138) := rfl
theorem lit139 : Statement (.lit139) := rfl
theorem lit140 : Statement (.lit140) := rfl
theorem lit141 : Statement (.lit141) := rfl
theorem lit142 : Statement (.lit142) := rfl
theorem lit143 : Statement (.lit143) := rfl
theorem lit144 : Statement (.lit144) := rfl
theorem lit145 : Statement (.lit145) := rfl
theorem lit146 : Statement (.lit146) := rfl
theorem lit147 : Statement (.lit147) := rfl
theorem lit148 : Statement (.lit148) := rfl
theorem lit149 : Statement (.lit149) := rfl
theorem lit150 : Statement (.lit150) := rfl
theorem lit151 : Statement (.lit151) := rfl
theorem lit152 : Statement (.lit152) := rfl
theorem lit153 : Statement (.lit153) := rfl
theorem lit154 : Statement (.lit154) := rfl
theorem lit155 : Statement (.lit155) := rfl
theorem lit156 : Statement (.lit156) := rfl
theorem lit157 : Statement (.lit157) := rfl
theorem lit158 : Statement (.lit158) := rfl
theorem lit159 : Statement (.lit159) := rfl
theorem lit160 : Statement (.lit160) := rfl
theorem lit161 : Statement (.lit161) := rfl
theorem lit162 : Statement (.lit162) := rfl
theorem lit163 : Statement (.lit163) := rfl
theorem lit164 : Statement (.lit164) := rfl
theorem lit165 : Statement (.lit165) := rfl
theorem lit166 : Statement (.lit166) := rfl
theorem lit167 : Statement (.lit167) := rfl
theorem lit168 : Statement (.lit168) := rfl
theorem lit169 : Statement (.lit169) := rfl
theorem lit170 : Statement (.lit170) := rfl
theorem lit171 : Statement (.lit171) := rfl
theorem lit172 : Statement (.lit172) := rfl
theorem lit173 : Statement (.lit173) := rfl
theorem lit174 : Statement (.lit174) := rfl
theorem lit175 : Statement (.lit175) := rfl
theorem lit176 : Statement (.lit176) := rfl
theorem lit177 : Statement (.lit177) := rfl
theorem lit178 : Statement (.lit178) := rfl
theorem lit179 : Statement (.lit179) := rfl
theorem lit180 : Statement (.lit180) := rfl
theorem lit181 : Statement (.lit181) := rfl
theorem lit182 : Statement (.lit182) := rfl
theorem lit183 : Statement (.lit183) := rfl
theorem lit184 : Statement (.lit184) := rfl
theorem lit185 : Statement (.lit185) := rfl
theorem lit186 : Statement (.lit186) := rfl
theorem lit187 : Statement (.lit187) := rfl
theorem lit188 : Statement (.lit188) := rfl
theorem lit189 : Statement (.lit189) := rfl
theorem lit190 : Statement (.lit190) := rfl
theorem lit191 : Statement (.lit191) := rfl
theorem lit192 : Statement (.lit192) := rfl
theorem lit193 : Statement (.lit193) := rfl
theorem lit194 : Statement (.lit194) := rfl
theorem lit195 : Statement (.lit195) := rfl
theorem lit196 : Statement (.lit196) := rfl
theorem lit197 : Statement (.lit197) := rfl
theorem lit198 : Statement (.lit198) := rfl
theorem lit199 : Statement (.lit199) := rfl
theorem lit200 : Statement (.lit200) := rfl
theorem lit201 : Statement (.lit201) := rfl
theorem lit202 : Statement (.lit202) := rfl
theorem lit203 : Statement (.lit203) := rfl
theorem lit204 : Statement (.lit204) := rfl
theorem lit205 : Statement (.lit205) := rfl
theorem lit206 : Statement (.lit206) := rfl
theorem lit207 : Statement (.lit207) := rfl
theorem lit208 : Statement (.lit208) := rfl
theorem lit209 : Statement (.lit209) := rfl
theorem lit210 : Statement (.lit210) := rfl
theorem lit211 : Statement (.lit211) := rfl
theorem lit212 : Statement (.lit212) := rfl
theorem lit213 : Statement (.lit213) := rfl
theorem lit214 : Statement (.lit214) := rfl
theorem lit215 : Statement (.lit215) := rfl
theorem lit216 : Statement (.lit216) := rfl
theorem lit217 : Statement (.lit217) := rfl
theorem lit218 : Statement (.lit218) := rfl
theorem lit219 : Statement (.lit219) := rfl
theorem lit220 : Statement (.lit220) := rfl
theorem lit221 : Statement (.lit221) := rfl
theorem lit222 : Statement (.lit222) := rfl
theorem lit223 : Statement (.lit223) := rfl
theorem lit224 : Statement (.lit224) := rfl
theorem lit225 : Statement (.lit225) := rfl
theorem lit226 : Statement (.lit226) := rfl
theorem lit227 : Statement (.lit227) := rfl
theorem lit228 : Statement (.lit228) := rfl
theorem lit229 : Statement (.lit229) := rfl
theorem lit230 : Statement (.lit230) := rfl
theorem lit231 : Statement (.lit231) := rfl
theorem lit232 : Statement (.lit232) := rfl
theorem lit233 : Statement (.lit233) := rfl
theorem lit234 : Statement (.lit234) := rfl
theorem lit235 : Statement (.lit235) := rfl
theorem lit236 : Statement (.lit236) := rfl
theorem lit237 : Statement (.lit237) := rfl
theorem lit238 : Statement (.lit238) := rfl
theorem lit239 : Statement (.lit239) := rfl
theorem lit240 : Statement (.lit240) := rfl
theorem lit241 : Statement (.lit241) := rfl
theorem lit242 : Statement (.lit242) := rfl
theorem lit243 : Statement (.lit243) := rfl
theorem lit244 : Statement (.lit244) := rfl
theorem lit245 : Statement (.lit245) := rfl
theorem lit246 : Statement (.lit246) := rfl
theorem lit247 : Statement (.lit247) := rfl
theorem lit248 : Statement (.lit248) := rfl
theorem lit249 : Statement (.lit249) := rfl
theorem lit250 : Statement (.lit250) := rfl
theorem lit251 : Statement (.lit251) := rfl
theorem lit252 : Statement (.lit252) := rfl
theorem lit253 : Statement (.lit253) := rfl
theorem lit254 : Statement (.lit254) := rfl
theorem lit255 : Statement (.lit255) := rfl

end Sys2Proof.Laws.OpName
end

