-- ==== Sys2Proof/Tests/Slice0.lean ====
section
/-! SUPPORT. The model's own tests. Expected values are taken from spec/: the code listings (R72 to R74, through the
`encoding` strings of spec/opcode_table.json), the vectors of 95_test_vectors.md and the examples of the rules. The last
part gives, for every statement with hypotheses, states and operands that meet them. -/

namespace Sys2Proof.Tests

set_option Elab.async false

open Sys2Proof Sys2Proof.Machine Sys2Proof.Claims

/-- The next state of an outcome meets `p`. -/
def onNext (o : Host.Outcome State Fault Refusal) (p : State → Bool) : Bool :=
  match o with
  | .next t => p t
  | _ => false

theorem next_of {o : Host.Outcome State Fault Refusal} {p : State → Bool} (h : onNext o p = true) :
    ∃ t, o = .next t ∧ p t = true := by
  cases o with
  | next t => exact ⟨t, rfl, h⟩
  | fault f => cases h
  | refused q => cases h

/-! ## WellFormed: one ill-formed term for each check -/

/-- A legal header is spelled by its own row (log 12). -/
theorem test_wf_legal_header_not_hdr : Instr.wf .header (.hdr 0 4) = false := by decide +kernel
/-- A token does not stand in phase `HEADER` (R105). -/
theorem test_wf_token_in_header : Instr.wf .header (.litRaw 0x41) = false := by decide +kernel
/-- `LIT_RAW` is illegal in a coded-literal stream (R66). -/
theorem test_wf_raw_in_coded : Instr.wf (.token (some litLensFixed) 4) (.litRaw 0x41) = false := by decide +kernel
/-- `LIT_CODED` is illegal in a raw-literal stream (R67). -/
theorem test_wf_coded_in_raw : Instr.wf (.token none 4) (.litCoded 0x41) = false := by decide +kernel
/-- A symbol without a code has no literal (R84). -/
theorem test_wf_symbol_unused : Instr.wf (.litCode [1, 1]) .lit2 = false := by decide +kernel
/-- Length extra bits beyond their width (R70). -/
theorem test_wf_length_extra : Instr.wf (.token none 4) (.matchRef 8 2 0 0) = false := by decide +kernel
/-- The length value 519 is `END`, not a `MATCH` (R69). -/
theorem test_wf_sentinel : Instr.wf (.token none 4) (.matchRef 15 255 0 0) = false := by decide +kernel
/-- Distance extra bits beyond their width: 2 bits when the length is 2 (R68). -/
theorem test_wf_distance_extra : Instr.wf (.token none 6) (.matchRef 1 0 0 4) = false := by decide +kernel
theorem test_wf_len_row_extra : Instr.wf .lenCode (.len15 256) = false := by decide +kernel
theorem test_wf_dist_row_extra : Instr.wf (.distCode 3 4) (.dist0 16) = false := by decide +kernel
/-- A distance code does not stand where a length code is next. -/
theorem test_wf_dist_at_len : Instr.wf .lenCode (.dist0 0) = false := by decide +kernel
/-- An over-subscribed literal table (EX5) is refused (R85). -/
theorem test_wf_over_subscribed : literalTableWf (List.replicate 256 7) = false := by decide +kernel
/-- A table of 255 lengths is refused (R82). -/
theorem test_wf_short_table : literalTableWf (List.replicate 255 8) = false := by decide +kernel
/-- A code length of 16 is refused (R82). -/
theorem test_wf_long_code : literalTableWf (List.replicate 256 16) = false := by decide +kernel
theorem test_wf_dict : Ctx.wf (.token none 7) = false := by decide +kernel
theorem test_wf_match_length : Ctx.wf (.distCode 519 4) = false := by decide +kernel
theorem test_wf_match_accepted : Instr.wf (.token none 6) (.matchRef 15 254 63 63) = true := by decide +kernel

/-! ## Decode: every row, from the words of the table

A row's word is given as the number of its stream bits and the bits as a binary number, first bit read highest. -/

/-- What the decoder reads from a row's word, followed by nothing but the last byte's fill. -/
def word (c : Ctx) (w : Nat × Nat) : Option Instr := (decode c (readerOf (patternBits w.1 w.2))).value?

/-- The header rows (R60, R61, R63); the bytes are `00 04` and so on, and `00 07` is a header of no legal row. -/
theorem test_decode_header :
    [(16, 0x0020), (16, 0x00A0), (16, 0x0060), (16, 0x8020), (16, 0x80A0), (16, 0x8060), (16, 0x00E0)].map (word .header) =
      [some .hdrRaw4, some .hdrRaw5, some .hdrRaw6, some .hdrCoded4, some .hdrCoded5, some .hdrCoded6,
        some (.hdr 0 7)] := by decide +kernel

/-- `LITTAB_FIXED` takes no bits (R110). -/
theorem test_decode_littab_fixed : word .fixedTable (0, 0) = some .littabFixed := by decide +kernel

/-- `LTP` of unit `0xF8`, stream bits `00011111`: length 8, repeat 16 (T1, R65). -/
theorem test_decode_ltp : word .tableUnit (8, 0x1F) = some (.ltp 8 15) := by decide +kernel

/-- `0` `10000010` is the raw literal `A` (R113), `0` `100011` the coded one (R114). -/
theorem test_decode_literals :
    word (.token none 4) (9, 0x082) = some (.litRaw 0x41) ∧
    word (.token (some litLensFixed) 4) (7, 0x23) = some (.litCoded 0x41) := by decide +kernel

/-- `1` `00100` `1` `11` `1000` is the match of length 11 and distance 2 (R120); the largest token (R121). -/
theorem test_decode_match :
    word (.token none 4) (13, 0x1278) = some (.matchRef 8 1 0 1) ∧
    word (.token none 6) (30, 0x201FC03F) = some (.matchRef 15 254 63 63) := by decide +kernel

/-- `END` (R69). -/
theorem test_decode_end : word (.token none 4) (16, 0x80FF) = some .endOfStream := by decide +kernel

/-- The `LEN.s` words (R72). -/
def lenWords : List (List (Nat × Nat)) := [
  [(2, 3), (3, 5), (3, 4), (3, 3), (4, 5), (4, 4), (4, 3), (5, 5), (5, 4), (5, 3), (5, 2), (6, 3), (6, 2), (6, 1), (7, 1), (7, 0)]]

/-- The `DIST.t` words (R73). -/
def distWords : List (List (Nat × Nat)) := [
  [(2, 3), (4, 11), (4, 10), (5, 19), (5, 18), (5, 17), (5, 16), (6, 31), (6, 30), (6, 29), (6, 28), (6, 27), (6, 26), (6, 25), (6, 24), (6, 23)],
  [(6, 22), (6, 21), (6, 20), (6, 19), (6, 18), (6, 17), (7, 33), (7, 32), (7, 31), (7, 30), (7, 29), (7, 28), (7, 27), (7, 26), (7, 25), (7, 24)],
  [(7, 23), (7, 22), (7, 21), (7, 20), (7, 19), (7, 18), (7, 17), (7, 16), (7, 15), (7, 14), (7, 13), (7, 12), (7, 11), (7, 10), (7, 9), (7, 8)],
  [(8, 15), (8, 14), (8, 13), (8, 12), (8, 11), (8, 10), (8, 9), (8, 8), (8, 7), (8, 6), (8, 5), (8, 4), (8, 3), (8, 2), (8, 1), (8, 0)]]

/-- The `LIT.c` words (R74), 16 to a line. -/
def litWords : List (List (Nat × Nat)) := [
  [(11, 73), (12, 127), (12, 126), (12, 125), (12, 124), (12, 123), (12, 122), (12, 121), (12, 120), (8, 29), (7, 35), (12, 119), (12, 118), (7, 34), (12, 117), (12, 116)],
  [(12, 115), (12, 114), (12, 113), (12, 112), (12, 111), (12, 110), (12, 109), (12, 108), (12, 107), (12, 106), (13, 73), (12, 105), (12, 104), (12, 103), (12, 102), (12, 101)],
  [(4, 15), (10, 41), (8, 28), (12, 100), (10, 40), (12, 99), (10, 39), (8, 27), (7, 33), (7, 32), (8, 26), (9, 27), (7, 31), (6, 37), (7, 30), (8, 25)],
  [(7, 29), (6, 36), (7, 28), (7, 27), (7, 26), (7, 25), (8, 24), (7, 24), (7, 23), (8, 23), (8, 22), (12, 98), (11, 72), (7, 22), (9, 26), (11, 71)],
  [(12, 97), (6, 35), (7, 21), (6, 34), (6, 33), (5, 29), (7, 20), (8, 21), (8, 20), (6, 32), (11, 70), (9, 25), (6, 31), (7, 19), (6, 30), (6, 29)],
  [(7, 18), (11, 69), (6, 28), (6, 27), (6, 26), (7, 17), (9, 24), (8, 19), (9, 23), (9, 22), (11, 68), (8, 18), (11, 67), (9, 21), (12, 96), (8, 17)],
  [(12, 95), (5, 28), (6, 25), (6, 24), (6, 23), (5, 27), (6, 22), (6, 21), (6, 20), (5, 26), (11, 66), (7, 16), (5, 25), (6, 19), (5, 24), (5, 23)],
  [(6, 18), (10, 38), (5, 22), (5, 21), (5, 20), (5, 19), (8, 16), (7, 15), (8, 15), (8, 14), (10, 37), (11, 65), (11, 64), (12, 94), (12, 93), (12, 92)],
  [(13, 72), (13, 71), (13, 70), (13, 69), (13, 68), (13, 67), (13, 66), (13, 65), (13, 64), (13, 63), (13, 62), (13, 61), (13, 60), (13, 59), (13, 58), (13, 57)],
  [(13, 56), (13, 55), (13, 54), (13, 53), (13, 52), (13, 51), (13, 50), (13, 49), (13, 48), (13, 47), (13, 46), (13, 45), (13, 44), (13, 43), (13, 42), (13, 41)],
  [(13, 40), (13, 39), (13, 38), (13, 37), (13, 36), (13, 35), (13, 34), (13, 33), (13, 32), (13, 31), (13, 30), (13, 29), (13, 28), (13, 27), (13, 26), (13, 25)],
  [(12, 91), (12, 90), (12, 89), (12, 88), (12, 87), (12, 86), (12, 85), (12, 84), (12, 83), (12, 82), (12, 81), (12, 80), (12, 79), (12, 78), (12, 77), (12, 76)],
  [(12, 75), (12, 74), (12, 73), (12, 72), (12, 71), (12, 70), (12, 69), (12, 68), (12, 67), (12, 66), (12, 65), (12, 64), (12, 63), (12, 62), (12, 61), (12, 60)],
  [(12, 59), (12, 58), (12, 57), (12, 56), (12, 55), (12, 54), (12, 53), (12, 52), (12, 51), (12, 50), (12, 49), (12, 48), (12, 47), (12, 46), (12, 45), (12, 44)],
  [(13, 24), (12, 43), (13, 23), (13, 22), (13, 21), (12, 42), (13, 20), (13, 19), (13, 18), (12, 41), (13, 17), (13, 16), (13, 15), (13, 14), (12, 40), (13, 13)],
  [(13, 12), (13, 11), (12, 39), (12, 38), (12, 37), (13, 10), (13, 9), (13, 8), (13, 7), (13, 6), (13, 5), (13, 4), (13, 3), (13, 2), (13, 1), (13, 0)]]

/-- Every `LEN.s` word, followed by extra bits 0, decodes to its row (R72). -/
theorem test_decode_len_rows :
    lenWords.flatten.zipIdx.all (fun w =>
      (decode .lenCode (readerOf (patternBits w.1.1 w.1.2 ++ List.replicate 8 false))).value? ==
        some (Instr.ofLen (Fin.ofNat 16 w.2) 0)) = true := by decide +kernel

/-- Every `DIST.t` word, followed by extra bits 0, decodes to its row (R73). -/
theorem test_decode_dist_rows :
    distWords.flatten.zipIdx.all (fun w =>
      (decode (.distCode 3 4) (readerOf (patternBits w.1.1 w.1.2 ++ List.replicate 4 false))).value? ==
        some (Instr.ofDist (Fin.ofNat 64 w.2) 0)) = true := by decide +kernel

/-- The `LIT.c` words of line `k` decode to their rows (R74). -/
def litRowsDecode (k : Nat) : Bool :=
  (litWords.getD k []).zipIdx.all fun w =>
    word (.litCode litLensFixed) w.1 == some (Instr.ofLit (BitVec.ofNat 8 (16 * k + w.2)))

theorem test_decode_lit_rows_0_63 : [0, 1, 2, 3].all litRowsDecode = true := by decide +kernel
theorem test_decode_lit_rows_64_127 : [4, 5, 6, 7].all litRowsDecode = true := by decide +kernel
theorem test_decode_lit_rows_128_191 : [8, 9, 10, 11].all litRowsDecode = true := by decide +kernel
theorem test_decode_lit_rows_192_255 : [12, 13, 14, 15].all litRowsDecode = true := by decide +kernel

/-- The rows' names: the lists the decoder takes them from are in order. -/
theorem test_row_names :
    litInstrs.map Instr.op = (List.range 256).map (fun c => .lit (BitVec.ofNat 8 c)) ∧
    distInstrs.map (fun f => (f 9).op) = (List.range 64).map (fun t => .dist (Fin.ofNat 64 t) 9) := by decide +kernel

/-- What a table word decodes to, numbered as the table numbers it (log 16). -/
theorem test_table_words :
    decodeTableWord 16 0x0400 = some .hdrRaw4 ∧ decodeTableWord 16 0x0601 = some .hdrCoded6 ∧
    decodeTableWord 16 0xFF01 = some .endOfStream ∧ decodeTableWord 8 29 = some .lit9 ∧
    decodeTableWord 8 0 = some (.dist63 0) ∧ decodeTableWord 8 13 = some (.dist50 0) := by decide +kernel

/-- A step from reset runs the word placed for it (log 17). -/
theorem test_fetch_word :
    onNext (step (State.reset.withFetchWord 16 0x0401)) (fun t => t.phase == .littab && t.dict == 4) = true ∧
    onNext (step (State.reset.withFetchWord 16 0xFF01)) (fun t => t.phase == .done && t.inBits == 16) = true ∧
    onNext (step (State.reset.withFetchWord 8 29)) (fun t => t.out == [0x09] && t.inBits == 8) = true ∧
    onNext (step (State.reset.withFetchWord 8 13)) (fun t => t.err == .invalidDistance && t.inBits == 12) = true := by
  decide +kernel

/-! ## The bit reader (95_test_vectors.md 2.1) -/

/-- BR3: `src = [0x82, 0x24]` at (0, 1), eight bits are `0x41`. -/
theorem test_next_bits_straddle : BitReader.nextBits 8 ⟨[0x82, 0x24], 0, 1⟩ = .ok 0x41 ⟨[0x82, 0x24], 1, 1⟩ := by decide +kernel
/-- BR6: the input ends on the 5th bit. -/
theorem test_next_bits_end :
    BitReader.nextBits 8 ⟨[0xFF], 0, 4⟩ = .bad .unexpectedEndOfInput (.atBit 8) ⟨[0xFF], 1, 0⟩ := by decide +kernel

/-! ## Huffman tables (95_test_vectors.md 2.2, 2.3) -/

/-- EX4 to EX8. -/
theorem test_kraft :
    Huffman.kraft (List.replicate 256 8) = .complete ∧ Huffman.kraft (List.replicate 256 7) = .over ∧
    Huffman.kraft (List.replicate 256 9) = .incomplete ∧ Huffman.kraft ([1, 1] ++ List.replicate 254 0) = .complete ∧
    Huffman.kraft (List.replicate 256 0) = .incomplete := by decide +kernel
/-- HD14: 256 codes of 9 bits, stream bits `011111111`. -/
theorem test_invalid_code :
    huffDecode .literal (List.replicate 256 9) (readerOf (patternBits 9 0xFF)) =
      .bad .invalidCode (.noCode .literal 9) ⟨[0xFE, 0x01], 1, 1⟩ := by decide +kernel
/-- HD16: `000` and then the input ends, inside the last byte's first three bits. -/
theorem test_code_cut_short :
    huffDecode .length lenLens ⟨[0x1F], 0, 5⟩ = .bad .unexpectedEndOfInput (.atBit 8) ⟨[0x1F], 1, 0⟩ := by decide +kernel
/-- R89: code lengths of the space, `A` and 0xFF. -/
theorem test_lit_rom :
    litLensFixed.getD 0x20 0 = 4 ∧ litLensFixed.getD 0x41 0 = 6 ∧ litLensFixed.getD 0xFF 0 = 13 := by decide +kernel

/-! ## Steps -/

/-- A state in phase `TOKEN` of a raw-literal stream with `dict` 4, having emitted `out` into the window. -/
def tok (src : List Byte) (out : List Byte) : State :=
  { State.reset with
    phase := .token, dict := 4, reader := ⟨src, 0, 0⟩, out := out, win := out.zipIdx.map fun p => (p.2, p.1) }

/-- The same in a coded-literal stream with the fixed table loaded. -/
def tokCoded (src : List Byte) : State := { (tok src []).loadLitLen litLensFixed with litCoded := true }

/-- A state inside a transmitted table, `n` symbols assigned length 8. -/
def inTable (src : List Byte) (n : Nat) : State :=
  { State.reset with
    phase := .littab, dict := 4, litCoded := true, litSrc := .stream, reader := ⟨src, 0, 0⟩, ltN := n, field := .unit,
    litLen := (List.range n).map fun v => (v, 8) }

/-- A state at the start of phase `LITTAB`. -/
def atLittab (lt : LitTableSource) (src : List Byte) : State :=
  { State.reset with phase := .littab, dict := 4, litCoded := true, litSrc := lt, reader := ⟨src, 0, 0⟩ }

/-- R108's examples: `00 04`, and `00 07` (S4). -/
theorem test_step_header :
    onNext (step (State.reset.hostReset [0x00, 0x04])) (fun t => t.phase == .token && t.dict == 4 && t.capacity == 1024) ∧
    onNext (step (State.reset.hostReset [0x00, 0x07])) (fun t => t.status == 0x14 && t.inBits == 16) := by decide +kernel
/-- H14: both bytes are read before either is checked. -/
theorem test_step_short_header :
    onNext (step (State.reset.hostReset [0x07])) (fun t => t.status == 0x54 && t.inBits == 8) := by decide +kernel
/-- R110's example. -/
theorem test_step_littab_fixed :
    onNext (step (atLittab .fixed [])) (fun t => t.litLen.read 0x20 == some 4 && t.litLen.read 0x41 == some 6 &&
      t.phase == .token && t.inBits == 0) := by decide +kernel
/-- A raw literal cut short emits nothing (LR2). -/
theorem test_step_raw_cut : onNext (step (tok [0x82] [])) (fun t => t.err == .unexpectedEndOfInput && t.out == []) := by
  decide +kernel
/-- `0` `100011` emits `A` (R114), as in T9. -/
theorem test_step_coded :
    onNext (step (tokCoded [0xE2])) (fun t => t.out == [0x41] && t.inBits == 7 && t.win == [(0, 0x41)]) := by decide +kernel
/-- S1: distance 1, length 10 on a window ending in 0xAB. -/
theorem test_step_overlap :
    onNext (step (tok [0x89, 0x01] [0xAB])) (fun t => t.out == List.replicate 11 0xAB && t.inBits == 13) := by decide +kernel
/-- S2 and S3: distance 3 and distance 4 on three bytes. -/
theorem test_step_boundary :
    onNext (step (tok [0x5F, 0x00] [0x41, 0x42, 0x43])) (fun t => t.out == [0x41, 0x42, 0x43, 0x41, 0x42, 0x43]) ∧
    onNext (step (tok [0x7F, 0x00] [0x41, 0x42, 0x43])) (fun t => t.status == 0x844 && t.inBits == 9) := by decide +kernel
/-- E1: `END` leaves the bytes after it unread. -/
theorem test_step_end :
    onNext (step (tok [0x01, 0xFF, 0xDE] [])) (fun t => t.status == 0x803 && t.inBits == 16 &&
      t.reader.requested == 2) := by decide +kernel
/-- T2: the last unit overshoots, 255 symbols assigned and two more. -/
theorem test_step_overshoot :
    onNext (exec (.ltp 8 1) (inTable [] 255)) (fun t => t.err == .invalidLiteralTable && t.info == .assigned 257) := by
  decide +kernel
/-- T6: the input ends inside a transmitted table; what was assigned stays. -/
theorem test_step_table_cut :
    onNext (step (atLittab .stream [0xF8])) (fun t => t.err == .unexpectedEndOfInput && t.ltN == 16) := by decide +kernel
/-- The rows inside a match (R115 to R119): length 11, then distance 2. -/
theorem test_step_fields :
    onNext (step { tok [0x24] [0x41, 0x49] with field := .len }) (fun t => t.field == .dist 11 && t.inBits == 6) ∧
    onNext (step { tok [0x07] [0x41, 0x49] with field := .dist 11 }) (fun t => t.out.length == 13 && t.inBits == 6) := by
  decide +kernel
/-- The unwritten window is not readable (R39, log 4). -/
theorem test_unwritten_window :
    ({ tok [] [] with out := [0x41] } : State).copyBack 1 2 = .fault .windowUnwritten := rfl

/-! ## Witnesses: states and operands that meet the hypotheses of the statements -/

theorem tok_windowHolds : (tok [0x89, 0x01] [0xAB]).WindowHolds where
  recent := by
    intro k h _
    have hk : k = 0 := by simp [tok] at h; exact h
    subst hk
    rfl
  written := by decide +kernel

/-- A raw-literal token state with nothing emitted, whatever its input, is one a run passes through. -/
theorem tok_inv (src : List Byte) : (tok src []).Inv where
  position := by simp [tok, State.inBits, BitReader.inBits]
  errIff := by simp [tok, State.reset]
  dictLegal := Or.inr (Or.inl rfl)
  beforeHeader := by simp [tok]
  afterHeader := by simp [tok]
  tableNext := by simp [tok]
  tableLoaded := by simp [tok, State.reset]
  ltNBound := Nat.zero_le _
  winWf := ⟨List.Pairwise.nil, fun _ h => by cases h⟩
  litLenWf := ⟨List.Pairwise.nil, fun _ h => by cases h⟩
  window := ⟨fun k h _ => absurd h (Nat.not_lt_zero k), fun _ h => by cases h⟩
  fieldFits := trivial

theorem atLittab_inv (lt : LitTableSource) (src : List Byte) : (atLittab lt src).Inv where
  position := by simp [atLittab, State.inBits, BitReader.inBits]
  errIff := by simp [atLittab, State.reset]
  dictLegal := Or.inr (Or.inl rfl)
  beforeHeader := by simp [atLittab]
  afterHeader := by simp [atLittab]
  tableNext := by simp [atLittab, State.reset]
  tableLoaded := by simp [atLittab]
  ltNBound := Nat.zero_le _
  winWf := ⟨List.Pairwise.nil, fun _ h => by cases h⟩
  litLenWf := ⟨List.Pairwise.nil, fun _ h => by cases h⟩
  window := ⟨fun k h _ => absurd h (Nat.not_lt_zero k), fun _ h => by cases h⟩
  fieldFits := trivial

theorem tokCoded_lits : (tokCoded []).litLens = some litLensFixed := by decide +kernel

theorem witness_NextBitConsumesOneBit :
    (⟨[0xB4], 0, 7⟩ : BitReader).src[0]? = some 0xB4 ∧ (⟨[0xB4], 1, 0⟩ : BitReader).src[1]? = none := by decide +kernel

theorem witness_NextBitsIsLittleEndian :
    8 ≤ (⟨[0x01], 0, 0⟩ : BitReader).bits.length ∧ (⟨[0xFF], 0, 4⟩ : BitReader).bits.length < 8 := by decide +kernel

theorem witness_NextBitsIsLittleEndian_eight :
    ∃ r r' : BitReader, r.src[r.bytePos]? = some 0x82 ∧ r.bitPos = 0 ∧
      r'.src[r'.bytePos]? = some 0x82 ∧ r'.bitPos ≠ 0 ∧ r'.src[r'.bytePos + 1]? = some 0x24 :=
  ⟨⟨[0x82], 0, 0⟩, ⟨[0x82, 0x24], 0, 7⟩, by decide +kernel⟩

theorem witness_CompleteTableNeverInvalidCode :
    (∀ l ∈ lenLens, l < 16) ∧ Huffman.kraft lenLens = .complete := by decide +kernel

theorem witness_CanonicalCodesDecode :
    (∀ l ∈ lenLens, l < 16) ∧ Huffman.kraft lenLens ≠ .over ∧ 15 < lenLens.length ∧ lenLens.getD 15 0 ≠ 0 ∧
      (readerOf (codeBits lenLens 15)).bits = codeBits lenLens 15 ++ [false] := by decide +kernel

theorem witness_EmptyTableIsInvalidCode : ∀ l ∈ [0, 0], l = 0 := by decide +kernel

theorem witness_LengthHasOneSpelling :
    255 < 2 ^ lenExtra 15 ∧ matchLength 15 255 = matchLength 15 255 ∧ 2 ≤ 519 ∧ 519 ≤ 519 := by decide +kernel

theorem witness_DistanceHasOneSpelling :
    63 < 2 ^ 6 ∧ matchDistance 63 6 63 = matchDistance 63 6 63 ∧ 1 ≤ 4096 ∧ 4096 ≤ 64 <<< 6 := by decide +kernel

theorem witness_DecodeInvertsEncode :
    (Ctx.token none 6).wf = true ∧ Instr.wf (.token none 6) (.matchRef 15 254 63 63) = true ∧
      (readerOf (encode (.token none 6) (.matchRef 15 254 63 63))).bits =
        encode (.token none 6) (.matchRef 15 254 63 63) ++ [false, false] := by decide +kernel

theorem witness_DecodedWordIsItsEncoding :
    Ctx.lenCode.wf = true ∧ decode .lenCode ⟨[0x24], 0, 0⟩ = .ok (.len8 1) ⟨[0x24], 0, 6⟩ := by decide +kernel

theorem witness_TokenWidths :
    (Ctx.token (some litLensFixed) 4).wf = true ∧
    Instr.wf (.token (some litLensFixed) 4) (.litCoded 0x20) = true ∧
    Instr.wf (.token (some litLensFixed) 4) (.matchRef 1 0 0 0) = true ∧
    Instr.wf (.token (some litLensFixed) 4) .endOfStream = true ∧
    (Ctx.token none 4).wf = true ∧ Instr.wf (.token none 4) (.litRaw 0xFF) = true := by decide +kernel

theorem witness_StepRunsDecodedInstruction :
    (tok [0x01, 0xFF] []).atTable = false ∧ (tok [0x01, 0xFF] []).expects = .ctx (.token none 4) ∧
    decode (.token none 4) (tok [0x01, 0xFF] []).reader = .ok .endOfStream ⟨[0x01, 0xFF], 2, 0⟩ ∧
    (atLittab .stream []).atTable = true := by decide +kernel

theorem witness_ExecConsumesDecodedBits :
    ∃ t, (tok [0x01, 0xFF] []).expects = .ctx (.token none 4) ∧ (Ctx.token none 4).wf = true ∧
      decode (.token none 4) (tok [0x01, 0xFF] []).reader = .ok .endOfStream ⟨[0x01, 0xFF], 2, 0⟩ ∧
      exec .endOfStream (tok [0x01, 0xFF] []) = .next t :=
  ⟨_, by decide +kernel, by decide +kernel, by decide +kernel, rfl⟩

theorem witness_ReadFaultIsRaised :
    (tok [0x01] []).atTable = false ∧ (tok [0x01] []).expects = .ctx (.token none 4) ∧
    decode (.token none 4) (tok [0x01] []).reader = .bad .unexpectedEndOfInput (.atBit 8) ⟨[0x01], 1, 0⟩ := by decide +kernel

theorem witness_TerminalPhasesHaveNoStep :
    (tok [] []).endStream.phase = .done ∧ ((tok [] []).raise .invalidHeader .none).phase = .fault := by decide +kernel

theorem witness_StepIsTotal :
    (tok [0x01] []).Inv ∧ (tok [0x01] []).phase = .token ∧ (atLittab .stream []).Inv ∧
      (atLittab .stream []).phase = .littab :=
  ⟨tok_inv _, rfl, atLittab_inv _ _, rfl⟩

/-- A token state that completes, one that ends the run and one that faults, all of them states of a run. -/
theorem witness_StepKeepsInv :
    ∃ s t, State.Inv s ∧ State.atBoundary s ∧ s.phase = .token ∧ step s = .next t ∧ t.ended = false := by
  obtain ⟨t, h, hp⟩ := next_of (o := step (tok [0x82, 0x00] [])) (p := fun t => !t.ended) (by decide +kernel)
  exact ⟨_, t, tok_inv _, rfl, rfl, h, by simpa using hp⟩

theorem witness_StepEndsAtBoundary :
    ∃ s t, State.atBoundary s ∧ s.atTable = true ∧ step s = .next t := by
  obtain ⟨t, h, _⟩ := next_of (o := step (atLittab .stream [0xF8])) (p := fun _ => true) (by decide +kernel)
  exact ⟨atLittab .stream [0xF8], t, rfl, rfl, h⟩

theorem witness_PhaseTransitions :
    ∃ s t, State.Inv s ∧ State.atBoundary s ∧ step s = .next t ∧ t.phase = .done := by
  obtain ⟨t, h, hp⟩ := next_of (o := step (tok [0x01, 0xFF] [])) (p := fun t => t.phase == .done) (by decide +kernel)
  exact ⟨_, t, tok_inv _, rfl, h, by simpa using hp⟩

theorem witness_EveryStepMakesProgress :
    ∃ s t, State.Inv s ∧ State.atBoundary s ∧ s.phase = .littab ∧ s.litSrc = .fixed ∧ step s = .next t ∧
      t.phase = .token := by
  obtain ⟨t, h, hp⟩ := next_of (o := step (atLittab .fixed [])) (p := fun t => t.phase == .token) (by decide +kernel)
  exact ⟨_, t, atLittab_inv _ _, rfl, rfl, rfl, h, by simpa using hp⟩

theorem witness_PositionNeverMovesBack : ∃ s t, State.Inv s ∧ step s = .next t ∧ t.inBits = 9 := by
  obtain ⟨t, h, hp⟩ := next_of (o := step (tok [0x82, 0x00] [])) (p := fun t => t.inBits == 9) (by decide +kernel)
  exact ⟨_, t, tok_inv _, h, by simpa using hp⟩

theorem witness_OutputOnlyGrows : ∃ s t, State.Inv s ∧ step s = .next t ∧ t.out = [0x41] := by
  obtain ⟨t, h, hp⟩ := next_of (o := step (tok [0x82, 0x00] [])) (p := fun t => t.out == [0x41]) (by decide +kernel)
  exact ⟨_, t, tok_inv _, h, by simpa using hp⟩

/-- `END` in the first two bytes; the third differs. -/
theorem witness_NoReadAhead :
    ∃ s t, step s = .next t ∧ t.err ≠ .unexpectedEndOfInput ∧
      [0x01, 0xFF, 0x33].take t.reader.requested = s.reader.src.take t.reader.requested := by
  obtain ⟨t, h, hp⟩ := next_of (o := step (tok [0x01, 0xFF, 0xDE] []))
    (p := fun t => t.err == .none && t.reader.requested == 2) (by decide +kernel)
  simp only [Bool.and_eq_true, beq_iff_eq] at hp
  exact ⟨_, t, h, by simp [hp.1], by rw [hp.2]; rfl⟩

/-- The first token of a stream, a match of length 2 and distance 1 (M6), faults `InvalidDistance`. -/
theorem witness_FaultsOfEachOperation :
    ∃ s t, State.Inv s ∧ State.atBoundary s ∧ s.phase = .token ∧ step s = .next t ∧ t.phase = .fault ∧
      t.err = .invalidDistance ∧ s.expects = .ctx (.token none 4) ∧
      decode (.token none 4) s.reader = .ok (.matchRef 1 0 0 0) ⟨[0x3B], 1, 0⟩ := by
  obtain ⟨t, h, hp⟩ := next_of (o := step (tok [0x3B] []))
    (p := fun t => t.phase == .fault && t.err == .invalidDistance) (by decide +kernel)
  simp only [Bool.and_eq_true, beq_iff_eq] at hp
  exact ⟨_, t, tok_inv _, rfl, rfl, h, hp.1, hp.2, by decide +kernel, by decide +kernel⟩

/-- A run of a `FIXED` engine that reaches a fault. -/
theorem witness_FixedReachesThreeFaults :
    ∃ t : State, State.reset.litSrc = .fixed ∧ Sys2Proof.core.run 1 (State.reset.hostReset [0x00, 0x07]) = .next t ∧
      t.err = .invalidHeader :=
  ⟨_, rfl, rfl, rfl⟩

/-- A header fault and an input that ends in a token, each at its position. -/
theorem witness_FaultPositions :
    ∃ s t, State.Inv s ∧ State.atBoundary s ∧ step s = .next t ∧ t.err = .unexpectedEndOfInput := by
  obtain ⟨t, h, hp⟩ := next_of (o := step (tok [0x01] [])) (p := fun t => t.err == .unexpectedEndOfInput) (by decide +kernel)
  exact ⟨_, t, tok_inv _, rfl, h, by simpa using hp⟩

/-- The clauses of a header fault (HD8's neighbour `00 07`) and of a distance fault (M6) at their positions. -/
theorem witness_FaultPositions_kinds :
    onNext (step (State.reset.hostReset [0x00, 0x07])) (fun t => t.err == .invalidHeader && t.inBits == 16) = true ∧
    onNext (step (tok [0x3B] [])) (fun t => t.err == .invalidDistance && t.inBits == 8) = true ∧
    (tok [0x3B] []).expects = .ctx (.token none 4) ∧
    decode (.token none 4) (tok [0x3B] []).reader = .ok (.matchRef 1 0 0 0) ⟨[0x3B], 1, 0⟩ := by decide +kernel

/-- The clause of a literal code that no symbol has (HD14): 256 codes of 9 bits. -/
theorem witness_FaultPositions_invalidCode :
    onNext (step { (tok [0xFC, 0x03] []).loadLitLen (List.replicate 256 9) with litCoded := true, litSrc := .stream })
      (fun t => t.err == .invalidCode && t.inBits == 10 && t.litLens == some (List.replicate 256 9)) = true := by
  decide +kernel

theorem witness_TokensAllOrNothing :
    ∃ s t t', State.Inv s ∧ s.phase = .token ∧ State.atBoundary s ∧ step s = .next t ∧ t.phase ≠ .fault ∧
      (tok [0x3B] []).Inv ∧ step (tok [0x3B] []) = .next t' ∧ t'.phase = .fault := by
  obtain ⟨t, h, hp⟩ := next_of (o := step (tok [0x82, 0x00] [])) (p := fun t => !(t.phase == .fault)) (by decide +kernel)
  obtain ⟨t', h', hp'⟩ := next_of (o := step (tok [0x3B] [])) (p := fun t => t.phase == .fault) (by decide +kernel)
  exact ⟨tok [0x82, 0x00] [], t, t', tok_inv _, rfl, rfl, h, by simpa using hp, tok_inv _, h', by simpa using hp'⟩

theorem witness_ShortHeaderIsEndOfInput : ([0x07] : List Byte).length < 2 ∧ 1 < (2 : Byte).toNat := by decide +kernel

theorem witness_LegalHeaderRuns :
    Instr.hdrCoded6.op = .hdr 1 6 ∧ Instr.op (.hdr 0 4) = .hdr 0 4 ∧ State.reset.phase = .header ∧
      State.reset.field = .none ∧ (1 : Byte).toNat ≤ 1 ∧ 4 ≤ (4 : Byte).toNat ∧ 4 ≤ (6 : Byte).toNat ∧
      (6 : Byte).toNat ≤ 6 := by decide +kernel

theorem witness_IllegalHeaderRaises :
    State.reset.phase = .header ∧ State.reset.field = .none ∧ 1 < (2 : Byte).toNat ∧ (3 : Byte).toNat < 4 ∧
      6 < (7 : Byte).toNat := by decide +kernel

theorem witness_FixedTableIsLoaded :
    (atLittab .fixed []).phase = .littab ∧ (atLittab .fixed []).field = .none ∧
      (atLittab .fixed []).litSrc = .fixed := by decide +kernel

/-- Inside the table: 254 + 1 < 256. -/
theorem witness_TableUnitAssigns :
    (inTable [] 254).phase = .littab ∧ (inTable [] 254).field = .unit ∧
      (inTable [] 254).ltN + ((0 : BitVec 4).toNat + 1) < 256 := by decide +kernel

/-- At the table's end (254 + 2 = 256) and past it (254 + 3 > 256). -/
theorem witness_LastTableUnitCloses :
    (inTable [] 254).phase = .littab ∧ (inTable [] 254).field = .unit ∧ (inTable [] 254).ltN < 256 ∧
      (inTable [] 254).litLen.map Prod.fst = List.range (inTable [] 254).ltN ∧
      (inTable [] 254).ltN + ((1 : BitVec 4).toNat + 1) = 256 ∧
      256 < (inTable [] 254).ltN + ((2 : BitVec 4).toNat + 1) := by decide +kernel

/-- Sixteen units of 16 symbols (T1). -/
def unit16 : List (BitVec 4 × BitVec 4) := List.replicate 16 (8, 15)
/-- The same with the last unit split so that it overshoots by one (T2). -/
def unit17 : List (BitVec 4 × BitVec 4) := List.replicate 15 (8, 15) ++ [(8, 14), (8, 1)]

theorem witness_TransmittedTableIsLoaded :
    (unitLens (unit16)).length = 256 ∧
    256 < (unitLens (unit17)).length ∧
    (unitLens (unit17).dropLast).length < 256 ∧
    (atLittab .stream (List.replicate 16 0xF8)).atTable = true ∧ (atLittab .stream (List.replicate 16 0xF8)).litLen = [] ∧
    (atLittab .stream (List.replicate 16 0xF8)).reader.bits = unitBits (unit16) ++ [] ∧
    (atLittab .stream (List.replicate 15 0xF8 ++ [0xE8, 0x18])).reader.bits =
      unitBits (unit17) ++ [] ∧
    (unitLens [(8, 15)]).length < 256 ∧ ([false, false, false, true, true, true, true] : List Bit).length < 8 ∧
    ({ atLittab .stream [0xF8, 0xF8] with reader := ⟨[0x00, 0xF0, 0xF1], 1, 1⟩ } : State).reader.bits =
      unitBits [(8, 15)] ++ [false, false, false, true, true, true, true] := by decide +kernel

theorem witness_RawLiteralEmits :
    (tok [] []).phase = .token ∧ (tok [] []).field = .none ∧ (tok [] []).litCoded = false ∧
      (tok [0x82] []).reader.bits = false :: [true, false, false, false, false, false, true] ∧
      ([true, false, false, false, false, false, true] : List Bit).length < 8 := by decide +kernel

theorem witness_CodedLiteralEmits :
    (tokCoded []).phase = .token ∧ (tokCoded []).field = .none ∧ (tokCoded []).litCoded = true ∧
      (tokCoded []).litLens = some litLensFixed ∧ litLensFixed.getD (0xFF : Byte).toNat 0 ≠ 0 := by decide +kernel

/-- Distance equal to the one byte produced. -/
theorem witness_MatchCopies :
    (tok [0x89, 0x01] [0xAB]).phase = .token ∧ (tok [0x89, 0x01] [0xAB]).field = .none ∧
      (tok [0x89, 0x01] [0xAB]).litCoded = false ∧ 4 ≤ (tok [0x89, 0x01] [0xAB]).dict.toNat ∧
      (tok [0x89, 0x01] [0xAB]).dict.toNat ≤ 6 ∧ (tok [0x89, 0x01] [0xAB]).WindowHolds ∧ 0 < 2 ^ lenExtra 8 ∧
      matchLength 8 0 ≠ 519 ∧ 0 < 2 ^ distExtra (matchLength 8 0) (tok [0x89, 0x01] [0xAB]).dict.toNat ∧
      distanceAt (tok [0x89, 0x01] [0xAB]) (matchLength 8 0) 0 0 ≤ (tok [0x89, 0x01] [0xAB]).produced :=
  ⟨rfl, rfl, rfl, by decide +kernel, by decide +kernel, tok_windowHolds, by decide +kernel, by decide +kernel, by decide +kernel, by decide +kernel⟩

/-- One byte more than the one produced. -/
theorem witness_MatchBeyondOutputRaises :
    (tok [] [0xAB]).phase = .token ∧ (tok [] [0xAB]).litCoded = false ∧
      1 < 2 ^ distExtra (matchLength 8 0) (tok [] [0xAB]).dict.toNat ∧
      (tok [] [0xAB]).produced < distanceAt (tok [] [0xAB]) (matchLength 8 0) 0 1 := by decide +kernel

theorem witness_EndFinishesTheStream :
    (tok [0x01] []).reader.bits = (true :: (List.replicate 7 false ++ List.replicate 8 true)).take 8 ∧
      (tokCoded []).phase = .token ∧ (tokCoded []).field = .none ∧ (tokCoded []).litCoded = true ∧
      (tokCoded []).litLens = some litLensFixed := by decide +kernel

theorem witness_LiteralCodeRowsEmit :
    Instr.lit255.op = .lit 255 ∧ ({ tokCoded [] with field := .lit } : State).phase = .token ∧
      ({ tokCoded [] with field := .lit } : State).litLens = some litLensFixed ∧
      litLensFixed.getD (255 : Byte).toNat 0 ≠ 0 := by decide +kernel

/-- The sentinel and the length just below it. -/
theorem witness_LengthCodeRowsRun :
    Instr.op (.len15 255) = .len 15 255 ∧ Instr.op (.len15 254) = .len 15 254 ∧
      ({ tok [] [] with field := .len } : State).phase = .token ∧ 255 < 2 ^ lenExtra 15 ∧ lenBase 15 + 255 = 519 ∧
      lenBase 15 + 254 ≠ 519 := by decide +kernel

theorem witness_DistanceCodeRowsRun :
    Instr.op (.dist0 1) = .dist 0 1 ∧ ({ tok [0x89, 0x01] [0xAB] with field := .dist 3 } : State).phase = .token ∧
      1 < 2 ^ distExtra 3 (4 : BitVec 3).toNat ∧
      distanceAt { tok [0x89, 0x01] [0xAB] with field := .dist 3 } 3 0 0 ≤ 1 ∧
      1 < distanceAt { tok [0x89, 0x01] [0xAB] with field := .dist 3 } 3 0 1 ∧
      ({ tok [0x89, 0x01] [0xAB] with field := .dist 3 } : State).WindowHolds :=
  ⟨rfl, rfl, by decide +kernel, by decide +kernel, by decide +kernel, ⟨tok_windowHolds.recent, tok_windowHolds.written⟩⟩

theorem witness_LiteralFrame :
    (∃ t, exec (.litRaw 0x41) (tok [] []) = .next t) ∧ (∃ t, exec (.litCoded 0x41) (tokCoded []) = .next t) ∧
    (∃ t, Instr.lit65.op = .lit 0x41 ∧ exec .lit65 { tokCoded [] with field := .lit } = .next t) :=
  ⟨⟨_, rfl⟩, (next_of (p := fun _ => true) (by decide +kernel)).imp fun _ h => h.1,
    (next_of (p := fun _ => true) (by decide +kernel)).imp fun _ h => ⟨rfl, h.1⟩⟩

theorem witness_MatchFrame :
    (∃ u, Instr.op (.matchRef 0 0 0 0) = .matchRef 0 0 0 0 ∧ exec (.matchRef 0 0 0 0) (tok [] [0xAB]) = .next u) ∧
    (∃ u, Instr.op (.dist0 0) = .dist 0 0 ∧ exec (.dist0 0) { tok [] [0xAB] with field := .dist 3 } = .next u) :=
  ⟨⟨_, rfl, rfl⟩, ⟨_, rfl, rfl⟩⟩

/-- Each row the frame names completes in a state. -/
theorem witness_NonStoringFrame :
    (∃ t, Instr.op (.hdr 0 7) = .hdr 0 7 ∧ exec (.hdr 0 7) State.reset = .next t) ∧
    (∃ t, Instr.hdrCoded6.op = .hdr 1 6 ∧ exec .hdrCoded6 State.reset = .next t) ∧
    (∃ t, exec .littabFixed (atLittab .fixed []) = .next t) ∧
    (∃ t, exec (.ltp 8 0) (inTable [] 254) = .next t) ∧
    (∃ t, exec .endOfStream (tok [] []) = .next t) ∧
    (∃ t, Instr.op (.len15 254) = .len 15 254 ∧ exec (.len15 254) { tok [] [] with field := .len } = .next t) :=
  ⟨⟨_, rfl, rfl⟩, ⟨_, rfl, rfl⟩,
    (next_of (p := fun _ => true) (by decide +kernel)).imp fun _ h => h.1,
    (next_of (p := fun _ => true) (by decide +kernel)).imp fun _ h => h.1, ⟨_, rfl⟩, ⟨_, rfl, rfl⟩⟩

theorem witness_UndispatchedInstructionStops :
    (tok [] []).expects = .ctx (.token none 4) ∧ opFits (.token none 4) (Instr.op .hdrRaw4) = false := by decide +kernel

theorem witness_EmitKeepsWindow : (tok [0x89, 0x01] [0xAB]).WindowHolds := tok_windowHolds

theorem witness_RingReadIsHistory :
    (tok [0x89, 0x01] [0xAB]).WindowHolds ∧ 1 ≤ 1 ∧ 1 ≤ min (tok [0x89, 0x01] [0xAB]).produced 4096 :=
  ⟨tok_windowHolds, by decide +kernel, by decide +kernel⟩

theorem witness_CopyRepeatsPattern :
    (tok [0x89, 0x01] [0xAB]).WindowHolds ∧ 1 ≤ 1 ∧ 1 ≤ (tok [0x89, 0x01] [0xAB]).produced ∧ 1 ≤ 4096 ∧
      (tok [0x89, 0x01] [0xAB]).produced < 2 :=
  ⟨tok_windowHolds, by decide +kernel, by decide +kernel, by decide +kernel, by decide +kernel⟩

theorem witness_DistanceCheckBoundary :
    ∃ u, (tok [] [0xAB]).produced < 2 ∧ 1 ≤ (tok [] [0xAB]).produced ∧ (tok [] [0xAB]).produced ≤ 4096 ∧
      (tok [] [0xAB]).copyBack 1 3 = .next u ∧ (tok [0x89, 0x01] [0xAB]).WindowHolds ∧
      (tok [] (List.replicate 1024 0)).capacity ≤ (tok [] (List.replicate 1024 0)).produced ∧
      4 ≤ (tok [] (List.replicate 1024 0)).dict.toNat ∧ (tok [] (List.replicate 1024 0)).dict.toNat ≤ 6 ∧
      15 < 2 ^ distExtra 3 (tok [] (List.replicate 1024 0)).dict.toNat :=
  ⟨_, by decide +kernel, by decide +kernel, by decide +kernel, rfl, tok_windowHolds, by decide +kernel,
    by decide +kernel, by decide +kernel, by decide +kernel⟩

theorem witness_FillGivesSameVerdict :
    4 ≤ (tok [] []).dict.toNat ∧ (tok [] []).dict.toNat ≤ 6 ∧ 15 < 2 ^ distExtra 3 (tok [] []).dict.toNat := by decide +kernel

/-- A token state in which one byte has been emitted is one a run passes through. -/
theorem tok_one_inv : (tok [0x89, 0x01] [0xAB]).Inv where
  position := by decide +kernel
  errIff := by decide +kernel
  dictLegal := by decide +kernel
  beforeHeader := by simp [tok]
  afterHeader := by intro; decide +kernel
  tableNext := by simp [tok]
  tableLoaded := by simp [tok, State.reset]
  ltNBound := by decide +kernel
  winWf := by decide +kernel
  litLenWf := by decide +kernel
  window := tok_windowHolds
  fieldFits := trivial

theorem witness_MatchStaysInCapacity :
    ∃ u, (tok [0x89, 0x01] [0xAB]).Inv ∧ exec (.matchRef 8 0 0 0) (tok [0x89, 0x01] [0xAB]) = .next u ∧
      u.phase ≠ .fault := by
  obtain ⟨u, h, hp⟩ := next_of (o := exec (.matchRef 8 0 0 0) (tok [0x89, 0x01] [0xAB]))
    (p := fun u => !(u.phase == .fault)) (by decide +kernel)
  exact ⟨u, tok_one_inv, h, by simpa using hp⟩

/-- A match and a coded literal. -/
theorem witness_FieldStepsRefineToken :
    (tok [0x89, 0x01] [0xAB]).phase = .token ∧ (tok [0x89, 0x01] [0xAB]).field = .none ∧
      (tok [0x89, 0x01] [0xAB]).litCoded = false ∧
      (tok [0x89, 0x01] [0xAB]).reader.nextBit = .ok true ⟨[0x89, 0x01], 0, 1⟩ ∧
      (tokCoded [0xE2]).phase = .token ∧ (tokCoded [0xE2]).field = .none ∧ (tokCoded [0xE2]).litCoded = true ∧
      (tokCoded [0xE2]).litLens = some litLensFixed ∧
      (tokCoded [0xE2]).reader.nextBit = .ok false ⟨[0xE2], 0, 1⟩ := by decide +kernel

end Sys2Proof.Tests
end

/-! SUPPORT. How far a read moves the reader, and how many bits a read that answers has consumed. -/

namespace Sys2Proof

/-! ## How far a read moves the reader -/

/-- `r'` stands at or after `r` in the same stream, and not past the stream's end (R19, R78). -/
def BitReader.Reaches (r r' : BitReader) : Prop := ∃ n, n ≤ r.bits.length ∧ r' = r.advance n

namespace BitReader.Reaches

theorem refl (r : BitReader) : r.Reaches r := ⟨0, Nat.zero_le _, rfl⟩

theorem trans {r r' r'' : BitReader} (h : r.Reaches r') (h' : r'.Reaches r'') : r.Reaches r'' := by
  obtain ⟨m, hm, rfl⟩ := h
  obtain ⟨n, hn, rfl⟩ := h'
  rw [advance_bits, List.length_drop] at hn
  exact ⟨m + n, by omega, (advance_add r m n).symm⟩

theorem src_eq {r r' : BitReader} (h : r.Reaches r') : r'.src = r.src := by
  obtain ⟨n, -, rfl⟩ := h
  simp

theorem inBits_le {r r' : BitReader} (h : r.Reaches r') : r.inBits ≤ r'.inBits := by
  obtain ⟨n, -, rfl⟩ := h
  simp

/-- A reader inside its input stays inside it. -/
theorem inside {r r' : BitReader} (h : r.Reaches r') (hr : r.inBits ≤ 8 * r.src.length) :
    r'.inBits ≤ 8 * r'.src.length := by
  obtain ⟨n, hn, rfl⟩ := h
  rw [bits_length] at hn
  rw [advance_inBits, advance_src]
  omega

end BitReader.Reaches

/-- A read from `r` that, whatever it answers, leaves the reader in `r`'s stream, and whose fault is a real one (R130). -/
structure Read.Onward {α : Type} (r : BitReader) (m : Read α) : Prop where
  reaches : r.Reaches m.reader
  faultKind : ∀ k info r', m = .bad k info r' → k ≠ .none

theorem Read.onward_ok {α : Type} (a : α) (r : BitReader) : (Read.ok a r).Onward r := ⟨.refl r, nofun⟩

theorem Read.onward_bad {α : Type} {k : ErrKind} (hk : k ≠ .none) (info : Info) (r : BitReader) :
    (Read.bad k info r : Read α).Onward r :=
  ⟨.refl r, fun _ _ _ h => by cases h; exact hk⟩

theorem Read.Onward.bind {α β : Type} {r : BitReader} {m : Read α} {f : α → BitReader → Read β}
    (hm : m.Onward r) (hf : ∀ a r', (f a r').Onward r') : (m.bind f).Onward r := by
  cases m with
  | bad k info r' => exact ⟨hm.reaches, fun _ _ _ h => by cases h; exact hm.faultKind _ _ _ rfl⟩
  | ok a r' => exact ⟨hm.reaches.trans (hf a r').reaches, (hf a r').faultKind⟩

theorem BitReader.nextBit_onward (r : BitReader) : r.nextBit.Onward r := by
  rcases r.nextBit_cases with ⟨b, rest, hbits, h⟩ | ⟨-, h⟩
  · exact ⟨⟨1, by simp [hbits], by rw [h]; rfl⟩, fun _ _ _ hbad => by rw [h] at hbad; cases hbad⟩
  · exact h ▸ Read.onward_bad (by decide) _ r

theorem BitReader.nextBits_onward (n : Nat) (r : BitReader) : (nextBits n r).Onward r := by
  induction n generalizing r with
  | zero => exact Read.onward_ok 0 r
  | succ n ih => exact r.nextBit_onward.bind fun _ r' => (ih r').bind fun _ r'' => Read.onward_ok _ r''

theorem huffLoop_onward (table : TableId) (lens : List Nat) (n L code first index : Nat) (r : BitReader) :
    (huffLoop table lens n L code first index r).Onward r := by
  induction n generalizing L code first index r with
  | zero => exact Read.onward_bad (by decide) _ r
  | succ n ih =>
    refine r.nextBit_onward.bind fun b r' => ?_
    dsimp only
    split
    · exact Read.onward_ok _ r'
    · exact ih ..

theorem huffDecode_onward (table : TableId) (lens : List Nat) (r : BitReader) :
    (huffDecode table lens r).Onward r := huffLoop_onward ..

theorem decodeLen_onward (r : BitReader) : (decodeLen r).Onward r :=
  (huffDecode_onward ..).bind fun _ r' => (r'.nextBits_onward _).bind fun _ r'' => Read.onward_ok _ r''

theorem decodeDist_onward (e : Nat) (r : BitReader) : (decodeDist e r).Onward r :=
  (huffDecode_onward ..).bind fun _ r' => (r'.nextBits_onward _).bind fun _ r'' => Read.onward_ok _ r''

theorem decodeLit_onward (lens : List Nat) (r : BitReader) : (decodeLit lens r).Onward r :=
  (huffDecode_onward ..).bind fun _ r' => Read.onward_ok _ r'

theorem decodeMatch_onward (dict : Nat) (r : BitReader) : (decodeMatch dict r).Onward r := by
  refine (decodeLen_onward r).bind fun p r' => ?_
  split
  · exact Read.onward_ok _ r'
  · exact (decodeDist_onward _ r').bind fun _ r'' => Read.onward_ok _ r''

theorem decodeOp_onward (c : Ctx) (r : BitReader) : (decodeOp c r).Onward r := by
  cases c with
  | header => exact (r.nextBits_onward 8).bind fun _ r' => (r'.nextBits_onward 8).bind fun _ r'' => Read.onward_ok _ r''
  | fixedTable => exact Read.onward_ok _ r
  | tableUnit => exact (r.nextBits_onward 8).bind fun _ r' => Read.onward_ok _ r'
  | litCode lens => exact (decodeLit_onward lens r).bind fun _ r' => Read.onward_ok _ r'
  | lenCode => exact (decodeLen_onward r).bind fun _ r' => Read.onward_ok _ r'
  | distCode length dict =>
    rw [decodeOp]
    exact (decodeDist_onward _ r).bind fun _ r' => Read.onward_ok _ r'
  | token lits dict =>
    refine r.nextBit_onward.bind fun b r' => ?_
    cases b with
    | true => exact decodeMatch_onward dict r'
    | false =>
      cases lits with
      | none => exact (r'.nextBits_onward 8).bind fun _ r'' => Read.onward_ok _ r''
      | some lens => exact (decodeLit_onward lens r').bind fun _ r'' => Read.onward_ok _ r''

theorem decode_onward (c : Ctx) (r : BitReader) : (decode c r).Onward r :=
  (decodeOp_onward c r).bind fun _ r' => Read.onward_ok _ r'

/-! ## How many bits a read that answers has consumed -/

theorem BitReader.nextBit_ok {r r' : BitReader} {b : Bit} (h : r.nextBit = .ok b r') : r' = r.advance 1 := by
  rcases r.nextBit_cases with ⟨b', rest, -, hok⟩ | ⟨-, hbad⟩
  · rw [hok] at h; cases h; rfl
  · rw [hbad] at h; cases h

theorem BitReader.nextBits_ok {n v : Nat} {r r' : BitReader} (h : nextBits n r = .ok v r') :
    v < 2 ^ n ∧ r' = r.advance n := by
  induction n generalizing v r with
  | zero => cases h; exact ⟨by decide, rfl⟩
  | succ n ih =>
    obtain ⟨b, r₁, hb, h⟩ := Read.bind_eq_ok.1 h
    obtain ⟨w, r₂, hw, h⟩ := Read.bind_eq_ok.1 h
    cases h
    obtain ⟨hlt, rfl⟩ := ih hw
    obtain rfl := nextBit_ok hb
    refine ⟨?_, (advance_add r 1 n).symm.trans (by rw [Nat.add_comm])⟩
    have hbit := b.toNat_le
    rw [Nat.pow_succ]
    omega

namespace Huffman

/-- The symbols of code length `1` to `n`, in the order of R84. -/
def symbolsUpTo (lens : List Nat) (n : Nat) : List Nat := (List.range n).flatMap fun k => symbolsOfLength lens (k + 1)

theorem symbolsUpTo_succ (lens : List Nat) (n : Nat) :
    symbolsUpTo lens (n + 1) = symbolsUpTo lens n ++ symbolsOfLength lens (n + 1) := by
  simp [symbolsUpTo, List.range_succ]

theorem symbolsUpTo_mono (lens : List Nat) {m n : Nat} (h : m ≤ n) : symbolsUpTo lens m <+: symbolsUpTo lens n := by
  induction h with
  | refl => exact List.prefix_refl _
  | step _ ih => exact ih.trans (symbolsUpTo_succ .. ▸ List.prefix_append _ _)

theorem symbols_eq_symbolsUpTo (lens : List Nat) : symbols lens = symbolsUpTo lens 15 := rfl

theorem symbolsOfLength_length (lens : List Nat) (L : Nat) : (symbolsOfLength lens L).length = count lens L := by
  have hpred : (fun p : Nat × Nat => (if p.1 = L then some p.2 else none).isSome) = (· == L) ∘ Prod.fst := by
    funext p
    by_cases hp : p.1 = L <;> simp [hp]
  rw [symbolsOfLength, List.length_filterMap_eq_countP, hpred, ← List.countP_map, List.zipIdx_map_fst]
  rfl

theorem mem_symbolsOfLength {lens : List Nat} {L s : Nat} (h : s ∈ symbolsOfLength lens L) :
    s < lens.length ∧ lens.getD s 0 = L := by
  obtain ⟨⟨l, i⟩, hmem, hp⟩ := List.mem_filterMap.1 h
  rw [List.mem_zipIdx_iff_getElem?] at hmem
  by_cases hl : l = L
  · simp only [hl, if_true, Option.some.injEq] at hp
    subst hl hp
    exact ⟨(List.getElem?_eq_some_iff.1 hmem).1, by simp [List.getD_eq_getElem?_getD, hmem]⟩
  · simp [hl] at hp

/-- The `j`-th symbol of code length `L` stands in `symbol[]` after all symbols with shorter codes (R84). -/
theorem symbols_getD_mem {lens : List Nat} {k j : Nat} (hk : k < 15) (hj : j < count lens (k + 1)) :
    (symbols lens).getD ((symbolsUpTo lens k).length + j) 0 ∈ symbolsOfLength lens (k + 1) := by
  rw [← symbolsOfLength_length] at hj
  obtain ⟨rest, hrest⟩ := symbolsUpTo_mono lens (Nat.succ_le_of_lt hk)
  rw [symbols_eq_symbolsUpTo, ← hrest, symbolsUpTo_succ, List.append_assoc, List.getD_append_right _ _ _ _ (by omega),
    Nat.add_sub_cancel_left, List.getD_append _ _ _ _ hj, List.getD_eq_getElem _ _ hj]
  exact List.getElem_mem hj

theorem maxlen_le {lens : List Nat} {b : Nat} (h : ∀ l ∈ lens, l ≤ b) : maxlen lens ≤ b := by
  have hfold : ∀ (ls : List Nat) (a : Nat), a ≤ b → (∀ l ∈ ls, l ≤ b) → ls.foldl max a ≤ b := by
    intro ls
    induction ls with
    | nil => exact fun a ha _ => ha
    | cons l ls ih =>
      intro a ha hls
      exact ih _ (max_le ha (hls l (by simp))) fun x hx => hls x (by simp [hx])
  exact hfold lens 0 (Nat.zero_le b) h

end Huffman

open Huffman in
/-- The loop of R86 after `k` bits: no code so far was below its length's codes, so the symbol it answers has a code of
as many bits as the loop has read. -/
theorem huffLoop_ok {table : TableId} {lens : List Nat} {n k code first s : Nat} {r r' : BitReader} (hk : n + k ≤ 15)
    (hfirst : first ≤ 2 * code)
    (h : huffLoop table lens n (k + 1) code first (symbolsUpTo lens k).length r = .ok s r') :
    s < lens.length ∧ k < lens.getD s 0 ∧ r' = r.advance (lens.getD s 0 - k) := by
  induction n generalizing k code first r with
  | zero => cases h
  | succ n ih =>
    obtain ⟨b, r₁, hb, h⟩ := Read.bind_eq_ok.1 h
    obtain rfl := BitReader.nextBit_ok hb
    dsimp only at h
    split at h
    case isTrue hlt =>
      obtain ⟨hs, rfl⟩ : (symbols lens).getD _ 0 = s ∧ _ = r' := by simpa using h
      have hmem := symbols_getD_mem (lens := lens) (k := k) (j := 2 * code + (1 - b.toNat) - first) (by omega) (by omega)
      rw [hs] at hmem
      obtain ⟨hslt, hlen⟩ := mem_symbolsOfLength hmem
      exact ⟨hslt, by omega, by rw [hlen, Nat.add_sub_cancel_left]⟩
    case isFalse hge =>
      rw [← symbolsOfLength_length lens (k + 1), ← List.length_append, ← symbolsUpTo_succ,
        symbolsOfLength_length] at h
      obtain ⟨hslt, hlen, rfl⟩ := ih (by omega) (by omega) h
      refine ⟨hslt, by omega, ?_⟩
      rw [← BitReader.advance_add]
      congr 1
      omega

/-- A symbol decoded from a table of lengths below 16 is one of the table's with a code, whose bits have been consumed. -/
theorem huffDecode_ok {table : TableId} {lens : List Nat} {s : Nat} {r r' : BitReader} (hlens : ∀ l ∈ lens, l < 16)
    (h : huffDecode table lens r = .ok s r') :
    s < lens.length ∧ lens.getD s 0 ≠ 0 ∧ r' = r.advance (lens.getD s 0) := by
  have hmax := Huffman.maxlen_le fun l hl => Nat.le_of_lt_succ (hlens l hl)
  obtain ⟨hs, hpos, hr⟩ := huffLoop_ok (k := 0) (by omega) (Nat.le_refl 0) h
  exact ⟨hs, hpos.ne', hr⟩

end Sys2Proof

/-! SUPPORT. Decoding: the bits a decoded operation has consumed, and the instruction that names it. -/

namespace Sys2Proof

/-! ## The bits a decoded operation has consumed -/

theorem lenLens_lt : ∀ l ∈ lenLens, l < 16 := by decide

theorem distLens_lt : ∀ l ∈ distLens, l < 16 := by decide

theorem literalTableWf_iff {lens : List Nat} :
    literalTableWf lens = true ↔ lens.length = 256 ∧ (∀ l ∈ lens, l < 16) ∧ Huffman.kraft lens ≠ .over := by
  simp [literalTableWf, and_assoc]

/-- The length symbols' ranges: all within 2 to 519, and only symbol 15 reaches the terminator's 519 (R92). -/
theorem lenBase_range (s : Fin 16) :
    2 ≤ lenBase s ∧ lenBase s + 2 ^ lenExtra s ≤ 520 ∧ (s ≠ 15 → lenBase s + 2 ^ lenExtra s ≤ 519) := by
  revert s; decide

theorem two_le_matchLength (s : Fin 16) (x : Nat) : 2 ≤ matchLength s x :=
  (lenBase_range s).1.trans (Nat.le_add_right ..)

theorem matchLength_le_endLength {s : Fin 16} {x : Nat} (hx : x < 2 ^ lenExtra s) : matchLength s x ≤ endLength := by
  obtain ⟨-, hle, -⟩ := lenBase_range s
  simp only [matchLength, endLength]
  omega

theorem eq_of_matchLength_eq_endLength {s : Fin 16} {x : Nat} (hx : x < 2 ^ lenExtra s)
    (h : matchLength s x = endLength) : s = 15 := by
  by_contra hs
  have hle := (lenBase_range s).2.2 hs
  simp only [matchLength, endLength] at h
  omega

theorem decodeLen_ok {p : Fin 16 × Nat} {r r' : BitReader} (h : decodeLen r = .ok p r') :
    p.2 < 2 ^ lenExtra p.1 ∧ r' = r.advance (lenLens.getD p.1.val 0 + lenExtra p.1) := by
  obtain ⟨s, r₁, hs, h⟩ := Read.bind_eq_ok.1 h
  obtain ⟨x, r₂, hx, h⟩ := Read.bind_eq_ok.1 h
  cases h
  obtain ⟨hlt, -, rfl⟩ := huffDecode_ok lenLens_lt hs
  obtain ⟨hbound, rfl⟩ := BitReader.nextBits_ok hx
  have hval : (Fin.ofNat 16 s).val = s := Nat.mod_eq_of_lt hlt
  exact ⟨hbound, by rw [BitReader.advance_add, hval]⟩

theorem decodeDist_ok {e : Nat} {p : Fin 64 × Nat} {r r' : BitReader} (h : decodeDist e r = .ok p r') :
    p.2 < 2 ^ e ∧ r' = r.advance (distLens.getD p.1.val 0 + e) := by
  obtain ⟨t, r₁, ht, h⟩ := Read.bind_eq_ok.1 h
  obtain ⟨y, r₂, hy, h⟩ := Read.bind_eq_ok.1 h
  cases h
  obtain ⟨hlt, -, rfl⟩ := huffDecode_ok distLens_lt ht
  obtain ⟨hbound, rfl⟩ := BitReader.nextBits_ok hy
  have hval : (Fin.ofNat 64 t).val = t := Nat.mod_eq_of_lt hlt
  exact ⟨hbound, by rw [BitReader.advance_add, hval]⟩

theorem decodeLit_ok {lens : List Nat} {v : Byte} {r r' : BitReader} (hlens : literalTableWf lens = true)
    (h : decodeLit lens r = .ok v r') : lens.getD v.toNat 0 ≠ 0 ∧ r' = r.advance (lens.getD v.toNat 0) := by
  obtain ⟨hlen, hlt, -⟩ := literalTableWf_iff.1 hlens
  obtain ⟨c, r₁, hc, h⟩ := Read.bind_eq_ok.1 h
  cases h
  obtain ⟨hclt, hcode, rfl⟩ := huffDecode_ok hlt hc
  rw [BitVec.toNat_ofNat, Nat.mod_eq_of_lt (by omega)]
  exact ⟨hcode, rfl⟩

theorem opFits_matchRef {lits : Option (List Nat)} {dict : Nat} {s : Fin 16} {x : Nat} {t : Fin 64} {y : Nat} :
    opFits (.token lits dict) (.matchRef s x t y) = true ↔
      x < 2 ^ lenExtra s ∧ matchLength s x ≠ endLength ∧ y < 2 ^ distExtra (matchLength s x) dict := by
  have heq : opFits (.token lits dict) (.matchRef s x t y) = (decide (x < 2 ^ lenExtra s) &&
      decide (matchLength s x ≠ endLength) && decide (y < 2 ^ distExtra (matchLength s x) dict)) := by
    cases lits <;> rfl
  rw [heq, Bool.and_eq_true, Bool.and_eq_true, decide_eq_true_iff, decide_eq_true_iff, decide_eq_true_iff, and_assoc]

/-- The match path, seen from the control bit before it (R115 to R118). -/
theorem decodeMatch_ok {dict : Nat} {op : Op} {r r' : BitReader} (lits : Option (List Nat))
    (h : decodeMatch dict (r.advance 1) = .ok op r') :
    opFits (.token lits dict) op = true ∧ r' = r.advance (opWidth (.token lits dict) op) := by
  obtain ⟨p, r₁, hp, h⟩ := Read.bind_eq_ok.1 h
  obtain ⟨hx, rfl⟩ := decodeLen_ok hp
  split at h
  case isTrue hend =>
    cases h
    rw [eq_of_matchLength_eq_endLength hx hend, ← BitReader.advance_add]
    exact ⟨by cases lits <;> rfl, rfl⟩
  case isFalse hend =>
    rw [Read.bind_eq_ok] at h
    obtain ⟨q, r₂, hq, h⟩ := h
    obtain ⟨hy, rfl⟩ := decodeDist_ok hq
    cases h
    refine ⟨opFits_matchRef.2 ⟨hx, hend, hy⟩, ?_⟩
    simp only [opWidth, ← BitReader.advance_add, Nat.add_assoc]

/-- A decoded operation can stand at the context it was decoded in (R59), and its bits have been consumed (R58). -/
theorem decodeOp_ok {c : Ctx} {op : Op} {r r' : BitReader} (hc : c.wf = true) (h : decodeOp c r = .ok op r') :
    opFits c op = true ∧ r' = r.advance (opWidth c op) := by
  cases c with
  | header =>
    obtain ⟨L, r₁, hL, h⟩ := Read.bind_eq_ok.1 h
    obtain ⟨D, r₂, hD, h⟩ := Read.bind_eq_ok.1 h
    cases h
    refine ⟨rfl, ?_⟩
    rw [(BitReader.nextBits_ok hD).2, (BitReader.nextBits_ok hL).2, ← BitReader.advance_add, opWidth]
  | fixedTable => cases h; exact ⟨rfl, rfl⟩
  | tableUnit =>
    obtain ⟨v, r₁, hv, h⟩ := Read.bind_eq_ok.1 h
    cases h
    exact ⟨rfl, (BitReader.nextBits_ok hv).2⟩
  | litCode lens =>
    obtain ⟨v, r₁, hv, h⟩ := Read.bind_eq_ok.1 h
    cases h
    obtain ⟨hcode, hr⟩ := decodeLit_ok hc hv
    exact ⟨bne_iff_ne.2 hcode, hr⟩
  | lenCode =>
    obtain ⟨p, r₁, hp, h⟩ := Read.bind_eq_ok.1 h
    cases h
    obtain ⟨hx, hr⟩ := decodeLen_ok hp
    exact ⟨decide_eq_true hx, hr⟩
  | distCode length dict =>
    rw [decodeOp, Read.bind_eq_ok] at h
    obtain ⟨q, r₁, hq, h⟩ := h
    cases h
    obtain ⟨hy, hr⟩ := decodeDist_ok hq
    exact ⟨decide_eq_true hy, hr⟩
  | token lits dict =>
    obtain ⟨b, r₁, hb, h⟩ := Read.bind_eq_ok.1 h
    obtain rfl := BitReader.nextBit_ok hb
    cases b with
    | true => exact decodeMatch_ok lits h
    | false =>
      cases lits with
      | none =>
        obtain ⟨v, r₂, hv, h⟩ := Read.bind_eq_ok.1 h
        cases h
        exact ⟨rfl, by rw [(BitReader.nextBits_ok hv).2, ← BitReader.advance_add, opWidth]⟩
      | some lens =>
        obtain ⟨v, r₂, hv, h⟩ := Read.bind_eq_ok.1 h
        cases h
        have hlens : literalTableWf lens = true := by
          simp only [Ctx.wf, Bool.and_eq_true] at hc
          exact hc.2
        obtain ⟨hcode, hr⟩ := decodeLit_ok hlens hv
        exact ⟨bne_iff_ne.2 hcode, by rw [hr, ← BitReader.advance_add, opWidth, Ctx.lits]⟩

/-! ## The instruction a decoded operation is named by -/

theorem op_ofHdr (L D : Byte) : (Instr.ofHdr L D).op = .hdr L D := by
  have hbyte : ∀ (v : Byte) (n : Nat), v.toNat = n → v = BitVec.ofNat 8 n := fun v n h => by simp [← h]
  unfold Instr.ofHdr
  split
  case h_7 => rfl
  all_goals
    rename_i hL hD
    rw [hbyte L _ hL, hbyte D _ hD]
    rfl

theorem op_ofLen {s : Fin 16} {x : Nat} (hx : x < 2 ^ lenExtra s) : (Instr.ofLen s x).op = .len s x := by
  rcases Nat.lt_or_ge s.val 8 with hs | hs
  · have hextra : ∀ u : Fin 16, u.val < 8 → lenExtra u = 0 := by decide
    have hop : ∀ u : Fin 16, (Instr.ofLen u 0).op = .len u 0 := by decide
    obtain rfl : x = 0 := by
      rw [hextra s hs] at hx
      omega
    exact hop s
  · obtain ⟨k, rfl⟩ : ∃ k : Fin 8, s = k.natAdd 8 := ⟨⟨s.val - 8, by omega⟩, Fin.ext (by simp; omega)⟩
    fin_cases k <;> rfl

theorem op_ofDist (t : Fin 64) (y : Nat) : (Instr.ofDist t y).op = .dist t y := by
  fin_cases t <;> rfl

theorem op_ofLit (c : Byte) : (Instr.ofLit c).op = .lit c := by
  revert c; decide +kernel

/-- The operation of the instruction that names an operation is that operation, wherever it can stand. -/
theorem op_ofOp {c : Ctx} {op : Op} (h : opFits c op = true) : (Instr.ofOp op).op = op := by
  cases op with
  | hdr L D => exact op_ofHdr L D
  | len s x =>
    cases c with
    | lenCode => exact op_ofLen (of_decide_eq_true h)
    | header | fixedTable | tableUnit | litCode | distCode => cases h
    | token lits => cases lits <;> cases h
  | dist t y => exact op_ofDist t y
  | lit c => exact op_ofLit c
  | littabFixed | ltp | litRaw | litCoded | matchRef | endOfStream => rfl

/-- The decoder's answer stands for a decoded operation that fits its context, with its bits consumed. -/
theorem decode_ok {c : Ctx} {i : Instr} {r r' : BitReader} (hc : c.wf = true) (h : decode c r = .ok i r') :
    opFits c i.op = true ∧ r' = r.advance (opWidth c i.op) := by
  obtain ⟨op, r₁, hop, h⟩ := Read.bind_eq_ok.1 h
  cases h
  obtain ⟨hfits, hr⟩ := decodeOp_ok hc hop
  rw [op_ofOp hfits]
  exact ⟨hfits, hr⟩

end Sys2Proof

/-! SUPPORT. An operation's effect apart from its dispatch, and what an item answers, leaves alone and emits. -/

namespace Sys2Proof.Machine

/-! ## What an operation does once its bits are consumed -/

theorem expand_litRom : expand litRom 256 = .ok litLensFixed :=
  if_pos (by decide +kernel : (runs litRom).length = 256)

/-- The effect of a distance code, at the only contexts it can stand at (R118, R119). -/
def distEffect (t : Fin 64) (y : Nat) (c : Ctx) (s : State) : Host.Outcome State Fault Refusal :=
  match c with
  | .distCode length dict => State.copyBack (matchDistance t (distExtra length dict) y) length { s with field := .none }
  | _ => .fault .sequencerBroken

/-- The effect of an operation at a decode context, on the state whose position has moved past its bits. -/
def opEffect (op : Op) (c : Ctx) (s : State) : Host.Outcome State Fault Refusal :=
  match op with
  | .hdr L D => .next (headerEffect L D s)
  | .littabFixed => .next { s.loadLitLen litLensFixed with phase := .token }
  | .ltp l r => (s.assignLens l (r.toNat + 1)).closeTable
  | .litRaw v => .next (s.emit v)
  | .litCoded v => .next (s.emit v)
  | .matchRef sym x t y =>
    s.copyBack (matchDistance t (distExtra (matchLength sym x) s.dict.toNat) y) (matchLength sym x)
  | .endOfStream => .next s.endStream
  | .len sym x =>
    .next (if matchLength sym x = endLength then s.endStream else { s with field := .dist (matchLength sym x) })
  | .dist t y => distEffect t y c s
  | .lit v => .next { s.emit v with field := .none }

theorem runOp_eq_runWhen (op : Op) (s : State) : runOp op s = runWhen op s (opEffect op) := by
  cases op with
  | littabFixed => simp only [runOp, execLittabFixed, expand_litRom]; rfl
  | hdr | ltp | litRaw | litCoded | matchRef | endOfStream | len | dist | lit => rfl

/-- An instruction that answers a next state could stand at the state's context, and the answer is its operation's
effect there (R105, R112). -/
theorem exec_next {i : Instr} {s t : State} (h : exec i s = .next t) :
    ∃ c, s.expects = .ctx c ∧ opFits c i.op = true ∧ opEffect i.op c (s.advance (opWidth c i.op)) = .next t := by
  rw [exec_eq_runOp, runOp_eq_runWhen] at h
  rcases runWhen_cases i.op s (opEffect i.op) with ⟨f, -, hf⟩ | ⟨c, -, -, hf⟩ | ⟨c, hc, hfits, hrun⟩
  · rw [hf] at h; cases h
  · rw [hf] at h; cases h
  · exact ⟨c, hc, hfits, hrun ▸ h⟩

/-- An item that answers a next state ran a decoded instruction or raised the fault the decoder met (R126, R130). -/
theorem stepItem_next {s t : State} (h : stepItem s = .next t) :
    ∃ c, s.expects = .ctx c ∧
      ((∃ i r, decode c s.reader = .ok i r ∧ opFits c i.op = true ∧
          opEffect i.op c (s.advance (opWidth c i.op)) = .next t) ∨
       (∃ k info r, decode c s.reader = .bad k info r ∧ t = { s with reader := r }.raise k info)) := by
  rcases stepItem_cases s with ⟨f, -, hf⟩ | ⟨c, i, r, hc, hd, hrun⟩ | ⟨c, k, info, r, hc, hd, hrun⟩
  · rw [hf] at h; cases h
  · rw [hrun] at h
    obtain ⟨c', hc', hfits, heff⟩ := exec_next h
    rw [hc] at hc'
    cases hc'
    exact ⟨c, hc, .inl ⟨i, r, hd, hfits, heff⟩⟩
  · rw [hrun] at h
    cases h
    exact ⟨c, hc, .inr ⟨k, info, r, hd, rfl⟩⟩

/-- What every unit of a transmitted table respects, its loop respects (R111); in the loop the model's own field is
`unit`. -/
theorem tableLoop_induction {R : State → State → Prop} (hrefl : ∀ s, R s s)
    (htrans : ∀ s t u, R s t → R t u → R s u) (hitem : ∀ s t, s.field = .unit → stepItem s = .next t → R s t)
    {n : Nat} {s t : State}
    (hs : s.field = .unit) (h : tableLoop n s = .next t) : R s t := by
  induction n generalizing s with
  | zero => cases h; exact hrefl _
  | succ n ih =>
    rw [tableLoop] at h
    cases hstep : stepItem s with
    | fault f => simp [hstep] at h
    | refused q => simp [hstep] at h
    | next u =>
      simp only [hstep] at h
      split at h
      · exact htrans _ _ _ (hitem _ u hs hstep) (ih ‹_› h)
      · cases h; exact hitem _ _ hs hstep

/-! ## What an item leaves alone, and what it emits -/

namespace State

/-- `t` is `s` with up to `n` bytes more of output, the input and the parameter as they were. -/
structure Extends (n : Nat) (s t : State) : Prop where
  reader : t.reader = s.reader
  litSrc : t.litSrc = s.litSrc
  out : ∃ bytes : List Byte, t.out = s.out ++ bytes ∧ bytes.length ≤ n

theorem Extends.of_out_eq {n : Nat} {s t : State} (hr : t.reader = s.reader) (hl : t.litSrc = s.litSrc)
    (ho : t.out = s.out) : Extends n s t := ⟨hr, hl, [], by simp [ho]⟩

theorem Extends.trans {m n : Nat} {s t u : State} (h : Extends m s t) (h' : Extends n t u) : Extends (m + n) s u := by
  obtain ⟨bs, hbs, hm⟩ := h.out
  obtain ⟨bs', hbs', hn⟩ := h'.out
  refine ⟨h'.reader.trans h.reader, h'.litSrc.trans h.litSrc, bs ++ bs', ?_, ?_⟩
  · rw [hbs', hbs, List.append_assoc]
  · rw [List.length_append]; omega

theorem emit_extends (b : Byte) (s : State) : Extends 1 s (s.emit b) := ⟨rfl, rfl, [b], rfl, Nat.le_refl 1⟩

theorem copyBytes_succ {distance n : Nat} {s t : State} (h : s.copyBytes distance (n + 1) = some t) :
    ∃ b, (s.emit b).copyBytes distance n = some t := by
  unfold copyBytes at h
  split at h
  · cases h
  · exact ⟨_, h⟩

theorem copyBytes_extends {distance length : Nat} {s t : State} (h : s.copyBytes distance length = some t) :
    Extends length s t := by
  induction length generalizing s with
  | zero => cases h; exact .of_out_eq rfl rfl rfl
  | succ n ih =>
    obtain ⟨b, h⟩ := copyBytes_succ h
    exact Nat.add_comm 1 n ▸ (emit_extends b s).trans (ih h)

theorem copyBack_next {distance length : Nat} {s t : State} (h : s.copyBack distance length = .next t) :
    t = s.raise .invalidDistance (.distance distance s.produced) ∨ s.copyBytes distance length = some t := by
  rcases copyBack_cases distance length s with ⟨-, hr⟩ | ⟨-, ⟨u, hu, hr⟩ | ⟨-, hr⟩⟩
  · rw [hr] at h; cases h; exact .inl rfl
  · rw [hr] at h; cases h; exact .inr hu
  · rw [hr] at h; cases h

theorem copyBack_extends {distance length : Nat} {s t : State} (h : s.copyBack distance length = .next t) :
    Extends length s t := by
  rcases copyBack_next h with rfl | h
  · exact .of_out_eq rfl rfl rfl
  · exact copyBytes_extends h

theorem closeTable_next {s t : State} (h : s.closeTable = .next t) :
    (s.ltN < 256 ∧ t = s) ∨ (∃ info, t = s.raise .invalidLiteralTable info) ∨
    (∃ lens, s.litLens = some lens ∧ Huffman.kraft lens ≠ .over ∧ t = { s with phase := .token, field := .none }) := by
  rcases closeTable_cases s with ⟨hn, hr⟩ | ⟨-, hr⟩ | ⟨-, ⟨-, hr⟩ | ⟨lens, -, -, hr⟩ | ⟨lens, hl, hk, hr⟩⟩
  · rw [hr] at h; cases h; exact .inl ⟨hn, rfl⟩
  · rw [hr] at h; cases h; exact .inr (.inl ⟨_, rfl⟩)
  · rw [hr] at h; cases h
  · rw [hr] at h; cases h; exact .inr (.inl ⟨_, rfl⟩)
  · rw [hr] at h; cases h; exact .inr (.inr ⟨lens, hl, hk, rfl⟩)

theorem closeTable_extends {s t : State} (h : s.closeTable = .next t) : Extends 0 s t := by
  rcases closeTable_next h with ⟨-, rfl⟩ | ⟨_, rfl⟩ | ⟨_, -, -, rfl⟩ <;> exact .of_out_eq rfl rfl rfl

end State

/-- The most bytes an operation emits at a context (R113, R114, R120). -/
def emitBound : Ctx → Op → Nat
  | _, .litRaw _ => 1
  | _, .litCoded _ => 1
  | _, .lit _ => 1
  | _, .matchRef s x _ _ => matchLength s x
  | .distCode length _, .dist _ _ => length
  | _, _ => 0

theorem headerEffect_extends (L D : Byte) (s : State) : State.Extends 0 s (headerEffect L D s) := by
  unfold headerEffect
  split <;> exact .of_out_eq rfl rfl rfl

theorem opEffect_extends {op : Op} {c : Ctx} {s t : State} (h : opEffect op c s = .next t) :
    State.Extends (emitBound c op) s t := by
  cases op with
  | hdr L D => cases h; exact headerEffect_extends L D s
  | littabFixed => cases h; exact .of_out_eq rfl rfl rfl
  | ltp l r =>
    have hassign : State.Extends 0 s (s.assignLens l (r.toNat + 1)) := .of_out_eq (by simp) (by simp) (by simp)
    exact hassign.trans (State.closeTable_extends h)
  | litRaw v => cases h; exact State.emit_extends v s
  | litCoded v => cases h; exact State.emit_extends v s
  | matchRef sym x t y => exact State.copyBack_extends h
  | endOfStream => cases h; exact .of_out_eq rfl rfl rfl
  | len sym x =>
    cases h
    split <;> exact .of_out_eq rfl rfl rfl
  | dist t y =>
    cases c with
    | distCode length dict => 
      obtain ⟨hr, hl, ho⟩ := State.copyBack_extends h
      exact ⟨hr, hl, ho⟩
    | header | fixedTable | tableUnit | token | litCode | lenCode => cases h
  | lit v => cases h; exact ⟨rfl, rfl, [v], rfl, Nat.le_refl 1⟩

/-- At a legal context no operation emits more than the longest match, 518 bytes (R159). -/
theorem emitBound_le {c : Ctx} {op : Op} (hc : c.wf = true) (h : opFits c op = true) : emitBound c op ≤ 518 := by
  cases op with
  | matchRef s x t y => 
    cases c with
    | token lits dict =>
      obtain ⟨hx, hne, -⟩ := opFits_matchRef.1 h
      exact Nat.le_of_lt_succ (Nat.lt_of_le_of_ne (matchLength_le_endLength hx) hne)
    | header | fixedTable | tableUnit | distCode | litCode | lenCode => cases h
  | dist t y =>
    cases c with
    | distCode length dict => 
      simp only [Ctx.wf, Bool.and_eq_true, decide_eq_true_eq] at hc
      exact Nat.le_of_lt_succ hc.2.2
    | header | fixedTable | tableUnit | token | litCode | lenCode => exact Nat.zero_le _
  | litRaw | litCoded | lit => exact (by decide : 1 ≤ 518)
  | hdr | littabFixed | ltp | endOfStream | len => cases c <;> exact Nat.zero_le _

end Sys2Proof.Machine

/-! SUPPORT. The invariant by parts, under the state's operations, and along a step. -/

namespace Sys2Proof.Machine

/-- A write past every listed cell lists one cell more. -/
theorem Cells.write_past {α : Type} {m : Cells α} {a : Nat} {v : α} (h : ∀ c ∈ m, c.1 < a) :
    Cells.write m a v = m ++ [(a, v)] := by
  induction m with
  | nil => rfl
  | cons c cs ih =>
    have hc : c.1 < a := h c (by simp)
    rw [Cells.write, if_neg (by omega), if_neg (by omega), ih fun d hd => h d (by simp [hd]), List.cons_append]

namespace State

/-! ## The window stays the recent output -/

theorem WindowHolds.congr {s t : State} (h : s.WindowHolds) (hw : t.win = s.win) (ho : t.out = s.out) :
    t.WindowHolds := by
  obtain ⟨hrecent, hwritten⟩ := h
  constructor
  · simpa only [hw, ho] using hrecent
  · simpa only [hw, ho] using hwritten

/-- `Emit` writes the cell that output byte `produced` belongs in, and no cell of a byte still recent (R98, R101). -/
theorem WindowHolds.emit {s : State} (h : s.WindowHolds) (b : Byte) : (s.emit b).WindowHolds where
  recent k hk hrecent := by
    simp only [emit_out, List.length_append, List.length_singleton] at hk hrecent
    simp only [emit_win, emit_out, Cells.read_write]
    by_cases hlast : k = s.out.length
    · subst hlast; simp
    · have hne : k % 4096 ≠ s.out.length % 4096 := by omega
      rw [if_neg hne, h.recent k (by omega) (by omega), List.getElem_append_left]
  written c hc := by
    simp only [emit_out, List.length_append, List.length_singleton]
    rcases Cells.mem_write hc with rfl | hold
    · exact Nat.lt_succ_of_le (Nat.mod_le ..)
    · exact Nat.lt_succ_of_lt (h.written c hold)

/-! ## The literal table in `lit_len` -/

/-- A unit that does not overshoot extends the cells written so far without a gap (R111). -/
theorem assignLens_cells {l : BitVec 4} {n : Nat} {s : State} (hcells : s.litLen.map Prod.fst = List.range s.ltN)
    (hn : s.ltN + n ≤ 256) : (s.assignLens l n).litLen.map Prod.fst = List.range (s.ltN + n) := by
  induction n generalizing s with
  | zero => exact hcells
  | succ n ih =>
    have hpast : ∀ c ∈ s.litLen, c.1 < s.ltN := fun c hc => by
      have hmem := List.mem_map_of_mem (f := Prod.fst) hc
      rw [hcells] at hmem
      exact List.mem_range.1 hmem
    rw [assignLens, if_pos (by omega), Cells.write_past hpast, ← Nat.add_assoc, Nat.add_right_comm]
    exact ih (by simp [hcells, List.range_succ]) (by simp only; omega)

theorem litLens_eq_some {s : State} {lens : List Nat} : s.litLens = some lens ↔
    s.litLen.map Prod.fst = List.range 256 ∧ lens = s.litLen.map fun c => c.2.toNat := by
  unfold litLens
  split
  case isTrue h => simp [h, eq_comm]
  case isFalse h => simp [h]

/-- A table whose cells are all written and that is not over-subscribed is accepted (R85). -/
theorem literalTableWf_of_litLens {s : State} {lens : List Nat} (h : s.litLens = some lens)
    (hk : Huffman.kraft lens ≠ .over) : literalTableWf lens = true := by
  obtain ⟨hcells, rfl⟩ := litLens_eq_some.1 h
  refine literalTableWf_iff.2 ⟨?_, ?_, hk⟩
  · simpa using congrArg List.length hcells
  · intro l hl
    obtain ⟨c, -, rfl⟩ := List.mem_map.1 hl
    exact c.2.isLt

/-- What was loaded is what is read back (R110). -/
theorem litLens_loadLitLen {lens : List Nat} (s : State) (hlen : lens.length = 256) (hlt : ∀ l ∈ lens, l < 16) :
    (s.loadLitLen lens).litLens = some lens := by
  refine litLens_eq_some.2 ⟨?_, ?_⟩
  · rw [loadLitLen_litLen, List.map_map, ← hlen, List.range_eq_range']
    exact List.zipIdx_map_snd 0 lens
  · rw [loadLitLen_litLen, List.map_map]
    conv_lhs => rw [← List.zipIdx_map_fst 0 lens]
    refine List.map_congr_left fun p hp => ?_
    have hp' : p.1 < 16 := hlt _ (List.fst_mem_of_mem_zipIdx hp)
    simp [Nat.mod_eq_of_lt hp']

theorem literalTableWf_litLensFixed : literalTableWf litLensFixed = true := by decide +kernel

/-! ## The invariant by parts -/

/-- The part of the invariant that a fault leaves: what the storage holds, in any phase. -/
structure StorageOk (s : State) : Prop where
  position : s.inBits ≤ 8 * s.reader.src.length
  dictLegal : s.dict = 0 ∨ s.dict = 4 ∨ s.dict = 5 ∨ s.dict = 6
  ltNBound : s.ltN ≤ 271
  winWf : s.win.wf 4096
  litLenWf : s.litLen.wf 256
  window : s.WindowHolds

variable {s t : State}

theorem Inv.storageOk (h : s.Inv) : s.StorageOk :=
  ⟨h.position, h.dictLegal, h.ltNBound, h.winWf, h.litLenWf, h.window⟩

theorem StorageOk.moveReader (h : s.StorageOk) {r : BitReader} (hr : s.reader.Reaches r) :
    ({ s with reader := r } : State).StorageOk :=
  ⟨hr.inside h.position, h.dictLegal, h.ltNBound, h.winWf, h.litLenWf, h.window.congr rfl rfl⟩

/-- A raised fault leaves a state of the invariant, wherever it is raised (R130). -/
theorem StorageOk.raise_inv (h : s.StorageOk) {k : ErrKind} (hk : k ≠ .none) (info : Info) : (s.raise k info).Inv where
  position := h.position
  errIff := by simp [hk]
  dictLegal := h.dictLegal
  beforeHeader := nofun
  afterHeader := by simp
  tableNext := nofun
  tableLoaded := nofun
  ltNBound := h.ltNBound
  winWf := h.winWf
  litLenWf := h.litLenWf
  window := h.window.congr rfl rfl
  fieldFits := trivial

theorem StorageOk.inv_of_token (h : s.StorageOk) (hphase : s.phase = .token) (herr : s.err = .none) (hdict : s.dict ≠ 0)
    (htable : s.litCoded = true → s.TableLoaded) (hfield : s.FieldFits) : s.Inv where
  position := h.position
  errIff := by simp [herr, hphase]
  dictLegal := h.dictLegal
  beforeHeader := by simp [hphase]
  afterHeader := fun _ => hdict
  tableNext := by simp [hphase]
  tableLoaded := fun _ => htable
  ltNBound := h.ltNBound
  winWf := h.winWf
  litLenWf := h.litLenWf
  window := h.window
  fieldFits := hfield

theorem StorageOk.inv_of_littab (h : s.StorageOk) (hphase : s.phase = .littab) (herr : s.err = .none) (hdict : s.dict ≠ 0)
    (hcoded : s.litCoded = true) (hstart : s.field = .none → s.litLen = [] ∧ s.ltN = 0) (hfield : s.FieldFits) :
    s.Inv where
  position := h.position
  errIff := by simp [herr, hphase]
  dictLegal := h.dictLegal
  beforeHeader := by simp [hphase]
  afterHeader := fun _ => hdict
  tableNext := fun _ => ⟨hcoded, hstart⟩
  tableLoaded := by simp [hphase]
  ltNBound := h.ltNBound
  winWf := h.winWf
  litLenWf := h.litLenWf
  window := h.window
  fieldFits := hfield

theorem fieldFits_of_none (h : s.field = .none) : s.FieldFits := by simp [FieldFits, h]

theorem Inv.err_eq_none (h : s.Inv) (hphase : s.phase ≠ .fault) : s.err = .none := h.errIff.2 hphase

/-! ## The invariant under the state's operations -/

theorem Inv.moveReader (h : s.Inv) (hphase : s.phase ≠ .header) {r : BitReader} (hr : s.reader.Reaches r) :
    ({ s with reader := r } : State).Inv where
  position := hr.inside h.position
  errIff := h.errIff
  dictLegal := h.dictLegal
  beforeHeader := fun hp => absurd hp hphase
  afterHeader := h.afterHeader
  tableNext := h.tableNext
  tableLoaded := h.tableLoaded
  ltNBound := h.ltNBound
  winWf := h.winWf
  litLenWf := h.litLenWf
  window := h.window.congr rfl rfl
  fieldFits := h.fieldFits

theorem Inv.emit (h : s.Inv) (hphase : s.phase ≠ .header) (b : Byte) : (s.emit b).Inv where
  position := h.position
  errIff := h.errIff
  dictLegal := h.dictLegal
  beforeHeader := fun hp => absurd hp hphase
  afterHeader := h.afterHeader
  tableNext := h.tableNext
  tableLoaded := h.tableLoaded
  ltNBound := h.ltNBound
  winWf := emit_win_wf b s h.winWf
  litLenWf := h.litLenWf
  window := h.window.emit b
  fieldFits := h.fieldFits

theorem Inv.copyBytes {distance length : Nat} (h : s.Inv) (hphase : s.phase ≠ .header)
    (ht : s.copyBytes distance length = some t) : t.Inv := by
  induction length generalizing s with
  | zero => cases ht; exact h
  | succ n ih =>
    obtain ⟨b, ht⟩ := copyBytes_succ ht
    exact ih (h.emit hphase b) hphase ht

theorem Inv.copyBack {distance length : Nat} (h : s.Inv) (hphase : s.phase ≠ .header)
    (ht : s.copyBack distance length = .next t) : t.Inv := by
  rcases copyBack_next ht with rfl | ht
  · exact h.storageOk.raise_inv (by decide) _
  · exact h.copyBytes hphase ht

/-- Within phase `TOKEN` the model's own field may move to any field that fits (log 6). -/
theorem Inv.setField (h : s.Inv) (hphase : s.phase = .token) {f : Field}
    (hf : ({ s with field := f } : State).FieldFits) : ({ s with field := f } : State).Inv :=
  StorageOk.inv_of_token ⟨h.position, h.dictLegal, h.ltNBound, h.winWf, h.litLenWf, h.window.congr rfl rfl⟩ hphase
    (h.err_eq_none (by simp [hphase])) (h.afterHeader (.inr (.inl hphase))) (h.tableLoaded hphase) hf

theorem Inv.endStream (h : s.Inv) (hphase : s.phase = .token) : s.endStream.Inv where
  position := h.position
  errIff := by simp [h.err_eq_none (by simp [hphase])]
  dictLegal := h.dictLegal
  beforeHeader := nofun
  afterHeader := fun _ => h.afterHeader (by simp [hphase])
  tableNext := nofun
  tableLoaded := nofun
  ltNBound := h.ltNBound
  winWf := h.winWf
  litLenWf := h.litLenWf
  window := h.window.congr rfl rfl
  fieldFits := trivial

/-- `LITTAB_FIXED` loads an accepted table (R110). -/
theorem Inv.loadFixed (h : s.Inv) (hphase : s.phase = .littab) (hfield : s.field = .none) :
    ({ s.loadLitLen litLensFixed with phase := .token } : State).Inv := by
  obtain ⟨hlen, hlt, -⟩ := literalTableWf_iff.1 literalTableWf_litLensFixed
  have hstore : ({ s.loadLitLen litLensFixed with phase := .token } : State).StorageOk :=
    ⟨h.position, h.dictLegal, h.ltNBound, h.winWf, loadLitLen_litLen_wf _ s hlen.le, h.window.congr rfl rfl⟩
  exact hstore.inv_of_token rfl (h.err_eq_none (by simp [hphase])) (h.afterHeader (.inl hphase))
    (fun _ => ⟨litLensFixed, litLens_loadLitLen s hlen hlt, literalTableWf_litLensFixed, fun _ => rfl⟩)
    (fieldFits_of_none hfield)

theorem StorageOk.assignLens (h : s.StorageOk) (l : BitVec 4) {n : Nat} (hn : s.ltN + n ≤ 271) :
    (s.assignLens l n).StorageOk where
  position := by simpa [inBits] using h.position
  dictLegal := by simpa using h.dictLegal
  ltNBound := by simpa using hn
  winWf := by simpa using h.winWf
  litLenWf := assignLens_litLen_wf l n s h.litLenWf
  window := h.window.congr (by simp) (by simp)

theorem fieldFits_of_unit (h : s.field = .unit) :
    s.FieldFits ↔ s.phase = .littab ∧ s.litSrc = .stream ∧ s.ltN < 256 ∧ s.litLen.map Prod.fst = List.range s.ltN := by
  simp [FieldFits, h]

/-- A unit of a transmitted table reads on, raises a fault, or closes a table that is accepted (R111). -/
theorem Inv.closeUnit (h : s.Inv) (hfield : s.field = .unit) (l r : BitVec 4)
    (ht : (s.assignLens l (r.toNat + 1)).closeTable = .next t) : t.Inv := by
  obtain ⟨hphase, hsrc, hlt, hcells⟩ := (fieldFits_of_unit hfield).1 h.fieldFits
  have herr := h.err_eq_none (by simp [hphase])
  have hdict := h.afterHeader (.inl hphase)
  have hr := r.isLt
  have hstore := h.storageOk.assignLens l (n := r.toNat + 1) (by omega)
  rcases closeTable_next ht with ⟨hmore, rfl⟩ | ⟨info, rfl⟩ | ⟨lens, hlens, hkraft, rfl⟩
  · rw [assignLens_ltN] at hmore
    refine hstore.inv_of_littab (by simpa) (by simpa) (by simpa) (by simpa using (h.tableNext hphase).1)
      (by simp [hfield]) ((fieldFits_of_unit (by simpa)).2 ?_)
    simp only [assignLens_phase, assignLens_litSrc, assignLens_ltN]
    exact ⟨hphase, hsrc, hmore, assignLens_cells hcells hmore.le⟩
  · exact hstore.raise_inv (by decide) info
  · have hstore' : ({ s.assignLens l (r.toNat + 1) with phase := .token, field := .none } : State).StorageOk :=
      ⟨hstore.position, hstore.dictLegal, hstore.ltNBound, hstore.winWf, hstore.litLenWf, hstore.window.congr rfl rfl⟩
    exact hstore'.inv_of_token rfl (by simpa) (by simpa)
      (fun _ => ⟨lens, hlens, literalTableWf_of_litLens hlens hkraft, by simp [hsrc]⟩) (fieldFits_of_none rfl)

theorem Inv.openTable (h : s.Inv) (ht : s.atTable = true) : s.openTable.Inv := by
  simp only [atTable, Bool.and_eq_true, beq_iff_eq] at ht
  obtain ⟨⟨hphase, hfield⟩, hsrc⟩ := ht
  obtain ⟨hcoded, hstart⟩ := h.tableNext hphase
  have hstore : s.openTable.StorageOk :=
    ⟨h.position, h.dictLegal, Nat.zero_le _, h.winWf, h.litLenWf, h.window.congr rfl rfl⟩
  refine hstore.inv_of_littab hphase (h.err_eq_none (by simp [hphase])) (h.afterHeader (.inl hphase)) hcoded nofun
    ((fieldFits_of_unit rfl).2 ⟨hphase, hsrc, Nat.zero_lt_succ _, ?_⟩)
  simp [(hstart hfield).1]

theorem headerLegal_iff {L D : Byte} :
    headerLegal L D = true ↔ L.toNat ≤ 1 ∧ 4 ≤ D.toNat ∧ D.toNat ≤ 6 := by
  simp [headerLegal, and_assoc]

/-- A legal dictionary byte leaves 4, 5 or 6 in `dict` (R108). -/
theorem setWidth_dict_legal {L D : Byte} (h : headerLegal L D = true) :
    D.setWidth 3 = 4 ∨ D.setWidth 3 = 5 ∨ D.setWidth 3 = 6 := by
  obtain ⟨-, hlo, hhi⟩ := headerLegal_iff.1 h
  bv_omega

/-- The header's effect on a state in which nothing has happened but the reading of two bytes (R108). -/
theorem StorageOk.headerEffect_inv (h : s.StorageOk) (herr : s.err = .none) (hlen : s.litLen = []) (hltN : s.ltN = 0)
    (hfield : s.field = .none) (L D : Byte) : (headerEffect L D s).Inv := by
  unfold headerEffect
  split
  case isFalse => exact h.raise_inv (by decide) _
  case isTrue hlegal =>
    have hdict := setWidth_dict_legal hlegal
    have hne : D.setWidth 3 ≠ 0 := by rcases hdict with hd | hd | hd <;> rw [hd] <;> decide
    have hstore : ∀ (p : Phase) (b : Bool),
        ({ s with litCoded := b, dict := D.setWidth 3, phase := p } : State).StorageOk :=
      fun p b => ⟨h.position, .inr hdict, h.ltNBound, h.winWf, h.litLenWf, h.window.congr rfl rfl⟩
    by_cases hL : L = 1
    · simp only [hL, decide_true, if_true]
      exact (hstore .littab true).inv_of_littab rfl herr hne rfl (fun _ => ⟨hlen, hltN⟩) (fieldFits_of_none hfield)
    · simp only [hL, decide_false, if_false]
      exact (hstore .token false).inv_of_token rfl herr hne nofun (fieldFits_of_none hfield)

/-! ## The sequencer at its decode context -/

/-- What a decode context says of the state that expects it (R105, R112). -/
def AtCtx (s : State) : Ctx → Prop
  | .header => s.phase = .header ∧ s.field = .none
  | .fixedTable => s.phase = .littab ∧ s.field = .none ∧ s.litSrc = .fixed
  | .tableUnit => s.phase = .littab ∧ s.field = .unit
  | .token none dict => s.phase = .token ∧ s.field = .none ∧ dict = s.dict.toNat ∧ s.litCoded = false
  | .token (some lens) dict =>
    s.phase = .token ∧ s.field = .none ∧ dict = s.dict.toNat ∧ s.litCoded = true ∧ s.litLens = some lens
  | .litCode lens => s.phase = .token ∧ s.field = .lit ∧ s.litLens = some lens
  | .lenCode => s.phase = .token ∧ s.field = .len
  | .distCode length dict => s.phase = .token ∧ s.field = .dist length ∧ dict = s.dict.toNat

theorem AtCtx.eq_tableUnit {c : Ctx} (hc : s.AtCtx c) (hfield : s.field = .unit) : c = .tableUnit := by
  cases c with
  | tableUnit => rfl
  | token lits dict =>
    have hother : s.field = .none := by cases lits <;> exact hc.2.1
    simp [hfield] at hother
  | header => simp [AtCtx, hfield] at hc
  | fixedTable | litCode | lenCode | distCode => simp [AtCtx, hfield] at hc

theorem withLits_eq_ctx {k : List Nat → Ctx} {c : Ctx} (h : s.withLits k = .ctx c) :
    ∃ lens, s.litLens = some lens ∧ c = k lens := by
  unfold withLits at h
  split at h
  case h_1 lens hl => cases h; exact ⟨lens, hl, rfl⟩
  case h_2 => cases h

theorem atCtx_of_expects {c : Ctx} (h : s.expects = .ctx c) : s.AtCtx c := by
  unfold expects at h
  split at h
  case h_1 | h_2 | h_10 => cases h
  case h_3 hphase hfield => cases h; exact ⟨hphase, hfield⟩
  case h_4 hphase hfield =>
    split at h
    case h_1 hsrc => cases h; exact ⟨hphase, hfield, hsrc⟩
    case h_2 => cases h
  case h_5 hphase hfield => cases h; exact ⟨hphase, hfield⟩
  case h_6 hphase hfield =>
    split at h
    case isTrue hcoded =>
      obtain ⟨lens, hlens, rfl⟩ := withLits_eq_ctx h
      exact ⟨hphase, hfield, rfl, hcoded, hlens⟩
    case isFalse hraw => cases h; exact ⟨hphase, hfield, rfl, Bool.eq_false_iff.2 hraw⟩
  case h_7 hphase hfield =>
    obtain ⟨lens, hlens, rfl⟩ := withLits_eq_ctx h
    exact ⟨hphase, hfield, hlens⟩
  case h_8 hphase hfield => cases h; exact ⟨hphase, hfield⟩
  case h_9 length hphase hfield => cases h; exact ⟨hphase, hfield, rfl⟩

theorem Inv.dict_range (h : s.Inv) (hphase : s.phase = .token) : 4 ≤ s.dict.toNat ∧ s.dict.toNat ≤ 6 := by
  have hne := h.afterHeader (.inr (.inl hphase))
  rcases h.dictLegal with hd | hd | hd | hd
  · exact absurd hd hne
  all_goals rw [hd]; decide

theorem Inv.table_wf (h : s.Inv) (hphase : s.phase = .token) (hcoded : s.litCoded = true) {lens : List Nat}
    (hlens : s.litLens = some lens) : literalTableWf lens = true := by
  obtain ⟨lens', hlens', hwf, -⟩ := h.tableLoaded hphase hcoded
  rw [hlens] at hlens'
  cases hlens'
  exact hwf

/-- Every context a state of a run expects is well formed. -/
theorem Inv.ctx_wf (h : s.Inv) {c : Ctx} (hc : s.AtCtx c) : c.wf = true := by
  cases c with
  | header | fixedTable | tableUnit | lenCode => rfl
  | token lits dict =>
    cases lits with
    | none =>
      obtain ⟨hphase, -, rfl, -⟩ := hc
      simpa [Ctx.wf] using h.dict_range hphase
    | some lens =>
      obtain ⟨hphase, -, rfl, hcoded, hlens⟩ := hc
      simpa [Ctx.wf, h.table_wf hphase hcoded hlens] using h.dict_range hphase
  | litCode lens =>
    obtain ⟨hphase, hfield, hlens⟩ := hc
    have hfits := h.fieldFits
    simp only [FieldFits, hfield] at hfits
    exact h.table_wf hphase hfits.2 hlens
  | distCode length dict =>
    obtain ⟨hphase, hfield, rfl⟩ := hc
    have hfits := h.fieldFits
    simp only [FieldFits, hfield] at hfits
    simpa [Ctx.wf, hfits.2] using h.dict_range hphase

/-! ## Every operation keeps the invariant -/

/-- Where in the sequencer an operation can stand (R105, R112). -/
def OpPlace (s : State) : Op → Prop
  | .hdr _ _ => s.phase = .header ∧ s.field = .none
  | .littabFixed => s.phase = .littab ∧ s.field = .none
  | .ltp _ _ => s.phase = .littab ∧ s.field = .unit
  | _ => s.phase = .token

theorem AtCtx.opPlace {c : Ctx} {op : Op} (hc : s.AtCtx c) (h : opFits c op = true) : s.OpPlace op := by
  cases c with
  | header =>
    cases op with
    | hdr L D => exact hc
    | _ => cases h
  | fixedTable =>
    cases op with
    | littabFixed => exact ⟨hc.1, hc.2.1⟩
    | _ => cases h
  | tableUnit =>
    cases op with
    | ltp l r => exact hc
    | _ => cases h
  | token lits dict =>
    have hphase : s.phase = .token := by cases lits <;> exact hc.1
    cases op with
    | hdr | littabFixed | ltp => cases lits <;> cases h
    | _ => exact hphase
  | litCode | lenCode | distCode =>
    cases op with
    | hdr | littabFixed | ltp => cases h
    | _ => exact hc.1

/-- A legal length symbol that is not the terminator leaves a match length (R70, R117). -/
theorem matchLength_range {c : Ctx} {sym : Fin 16} {x : Nat} (h : opFits c (.len sym x) = true)
    (hend : matchLength sym x ≠ endLength) : 2 ≤ matchLength sym x ∧ matchLength sym x < endLength := by
  have hx : x < 2 ^ lenExtra sym := by
    cases c with
    | lenCode => exact of_decide_eq_true h
    | token lits => cases lits <;> cases h
    | _ => cases h
  exact ⟨two_le_matchLength sym x, Nat.lt_of_le_of_ne (matchLength_le_endLength hx) hend⟩

theorem ne_header_of_token (h : s.phase = .token) : s.phase ≠ .header := by simp [h]

/-- An operation at its place keeps the invariant; `u` is the state past the operation's bits. -/
theorem Inv.opEffect {c : Ctx} {op : Op} {r : BitReader} (h : s.Inv) (hc : s.AtCtx c) (hfits : opFits c op = true)
    (hr : s.reader.Reaches r) (ht : opEffect op c { s with reader := r } = .next t) : t.Inv := by
  have hplace := hc.opPlace hfits
  cases op with
  | hdr L D =>
    obtain ⟨hphase, hfield⟩ := hplace
    obtain ⟨-, -, -, hlen, hltN, -⟩ := h.beforeHeader hphase
    cases ht
    exact (h.storageOk.moveReader hr).headerEffect_inv (h.err_eq_none (by simp [hphase])) hlen hltN hfield L D
  | littabFixed =>
    obtain ⟨hphase, hfield⟩ := hplace
    cases ht
    exact (h.moveReader (by simp [hphase]) hr).loadFixed hphase hfield
  | ltp l n =>
    obtain ⟨hphase, hfield⟩ := hplace
    exact (h.moveReader (by simp [hphase]) hr).closeUnit hfield l n ht
  | litRaw v | litCoded v =>
    have hphase := ne_header_of_token hplace
    cases ht
    exact (h.moveReader hphase hr).emit hphase v
  | matchRef sym x d y =>
    have hphase := ne_header_of_token hplace
    exact (h.moveReader hphase hr).copyBack hphase ht
  | endOfStream =>
    have hphase := ne_header_of_token hplace
    cases ht
    exact (h.moveReader hphase hr).endStream hplace
  | len sym x =>
    have hphase := ne_header_of_token hplace
    cases ht
    split
    case isTrue => exact (h.moveReader hphase hr).endStream hplace
    case isFalse hend => exact (h.moveReader hphase hr).setField hplace ⟨hplace, matchLength_range hfits hend⟩
  | dist d y =>
    have hphase := ne_header_of_token hplace
    cases c with
    | distCode length dict =>
      exact ((h.moveReader hphase hr).setField hplace (fieldFits_of_none rfl)).copyBack hphase ht
    | _ => cases ht
  | lit v =>
    have hphase := ne_header_of_token hplace
    cases ht
    exact ((h.moveReader hphase hr).emit hphase v).setField hplace (fieldFits_of_none rfl)

theorem Inv.stepItem (h : s.Inv) (ht : stepItem s = .next t) : t.Inv := by
  obtain ⟨c, hexp, ⟨i, r, hd, hfits, heff⟩ | ⟨k, info, r, hd, rfl⟩⟩ := stepItem_next ht
  · have hc := atCtx_of_expects hexp
    obtain ⟨-, rfl⟩ := decode_ok (h.ctx_wf hc) hd
    have hr := (decode_onward c s.reader).reaches
    rw [hd] at hr
    exact h.opEffect hc hfits hr heff
  · obtain ⟨hreaches, hkind⟩ := decode_onward c s.reader
    rw [hd] at hreaches
    exact (h.storageOk.moveReader hreaches).raise_inv (hkind _ _ _ hd) info

end State

theorem step_of_atTable {s : State} (h : s.atTable = true) : step s = tableLoop 256 s.openTable := by
  simp [step, stepOperation, h]

/-- A preorder on states that every item and the opening of a table respect, every step respects (R105, R111). -/
theorem step_induction {R : State → State → Prop} (hrefl : ∀ s, R s s) (htrans : ∀ s t u, R s t → R t u → R s u)
    (hitem : ∀ s t, stepItem s = .next t → R s t) (hopen : ∀ s, s.atTable = true → R s s.openTable) {s t : State}
    (h : step s = .next t) : R s t := by
  by_cases htable : s.atTable = true
  · rw [step_of_atTable htable] at h
    exact htrans _ _ _ (hopen s htable) (tableLoop_induction hrefl htrans (fun s t _ => hitem s t) rfl h)
  · rw [step_of_not_atTable (Bool.eq_false_iff.2 htable)] at h
    exact hitem s t h

/-- Settles O19: the invariant is carried along every item, so along the one item or the table loop that a step is. -/
theorem stepKeepsInv : Obligations.StepKeepsInv := by
  intro s t hs h
  exact step_induction (R := fun s t => s.Inv → t.Inv) (fun _ h => h) (fun _ _ _ h h' hs => h' (h hs))
    (fun _ _ ht hs => hs.stepItem ht) (fun _ ht hs => hs.openTable ht) h hs

/-- Settles O14: `exec` moves the position by the operation's width and its effect leaves it there, and that width is
what the decoder has read. -/
theorem execConsumesDecodedBits : Obligations.ExecConsumesDecodedBits := by
  intro s t c i r hexp hc hd h
  obtain ⟨c', hexp', -, heff⟩ := exec_next h
  rw [hexp] at hexp'
  cases hexp'
  rw [(opEffect_extends heff).reader, State.advance_reader]
  exact (decode_ok hc hd).2.symm

/-- Going on in the same input under the same parameter (R19, R38). -/
structure State.GoesOn (s t : State) : Prop where
  inBits_le : s.inBits ≤ t.inBits
  src_eq : t.reader.src = s.reader.src
  litSrc_eq : t.litSrc = s.litSrc

theorem State.GoesOn.refl (s : State) : s.GoesOn s := ⟨Nat.le_refl _, rfl, rfl⟩

theorem State.GoesOn.trans {s t u : State} (h : s.GoesOn t) (h' : t.GoesOn u) : s.GoesOn u :=
  ⟨h.inBits_le.trans h'.inBits_le, h'.src_eq.trans h.src_eq, h'.litSrc_eq.trans h.litSrc_eq⟩

theorem stepItem_goesOn {s t : State} (h : stepItem s = .next t) : s.GoesOn t := by
  obtain ⟨c, -, ⟨i, r, -, -, heff⟩ | ⟨k, info, r, hd, rfl⟩⟩ := stepItem_next h
  · obtain ⟨hreader, hlitSrc, -⟩ := opEffect_extends heff
    refine ⟨?_, by simp [hreader], hlitSrc⟩
    simp [State.inBits, hreader]
  · have hr := (decode_onward c s.reader).reaches
    rw [hd] at hr
    exact ⟨hr.inBits_le, hr.src_eq, rfl⟩

/-- Settles O22: every item goes on in the same input, so every step does. -/
theorem positionNeverMovesBack : Obligations.PositionNeverMovesBack := by
  intro s t h
  obtain ⟨hbits, hsrc, hlitSrc⟩ := step_induction State.GoesOn.refl (fun _ _ _ => .trans)
    (fun _ _ => stepItem_goesOn) (fun s _ => ⟨Nat.le_refl s.inBits, rfl, rfl⟩) h
  exact ⟨hbits, hsrc, hlitSrc⟩

/-- An item emits no more than the operations that can stand at its context. -/
theorem stepItem_out {s t : State} {n : Nat} (h : stepItem s = .next t)
    (hbound : ∀ c op, s.expects = .ctx c → opFits c op = true → emitBound c op ≤ n) :
    ∃ bytes : List Byte, t.out = s.out ++ bytes ∧ bytes.length ≤ n := by
  obtain ⟨c, hexp, ⟨i, r, -, hfits, heff⟩ | ⟨k, info, r, -, rfl⟩⟩ := stepItem_next h
  · obtain ⟨bytes, hout, hlen⟩ := (opEffect_extends heff).out
    exact ⟨bytes, hout, hlen.trans (hbound c i.op hexp hfits)⟩
  · exact ⟨[], by simp, Nat.zero_le n⟩

/-- Inside a transmitted table only table units run, and they emit nothing (R111). -/
theorem stepItem_out_of_unit {s t : State} (hfield : s.field = .unit) (h : stepItem s = .next t) : t.out = s.out := by
  obtain ⟨bytes, hout, hlen⟩ := stepItem_out (n := 0) h fun c op hexp hfits => by
    obtain rfl := (State.atCtx_of_expects hexp).eq_tableUnit hfield
    cases op with
    | ltp l r => exact Nat.le_refl 0
    | _ => cases hfits
  rw [hout, List.length_eq_zero_iff.1 (Nat.le_zero.1 hlen), List.append_nil]

/-- Settles O23: a token emits at most its longest match, and the units of a table emit nothing. -/
theorem outputOnlyGrows : Obligations.OutputOnlyGrows := by
  intro s t hs h
  by_cases htable : s.atTable = true
  · rw [step_of_atTable htable] at h
    have hout : t.out = s.openTable.out :=
      tableLoop_induction (R := fun s t => t.out = s.out) (fun _ => rfl) (fun _ _ _ h h' => h'.trans h)
        (fun _ _ => stepItem_out_of_unit) rfl h
    exact ⟨[], by simpa using hout, Nat.zero_le _⟩
  · rw [step_of_not_atTable (Bool.eq_false_iff.2 htable)] at h
    exact stepItem_out h fun c op hexp hfits => emitBound_le (hs.ctx_wf (State.atCtx_of_expects hexp)) hfits

end Sys2Proof.Machine

/-! SUPPORT. The host's view: reset, `STATUS` and the registers, and the saturating `fill`. -/

namespace Sys2Proof.Machine

/-! ## The host's view -/

/-- Settles O18: nothing has been read, written or emitted, so the invariant's clauses hold of the empty storage. -/
theorem resetMeetsInv : Obligations.ResetMeetsInv := by
  have hreset : ∀ (src : List Byte) (s : State), (s.hostReset src).Inv := fun src s =>
    { position := Nat.zero_le _
      errIff := by simp
      dictLegal := .inl rfl
      beforeHeader := fun _ => ⟨rfl, rfl, rfl, rfl, rfl, rfl⟩
      afterHeader := by simp
      tableNext := nofun
      tableLoaded := nofun
      ltNBound := Nat.zero_le _
      winWf := Cells.wf_nil _
      litLenWf := Cells.wf_nil _
      window := ⟨nofun, nofun⟩
      fieldFits := trivial }
  exact ⟨hreset [] State.reset, hreset⟩

/-- A decodable distance is at most 64 times the range of its extra bits (R71, R118). -/
theorem matchDistance_le {t : Fin 64} {e y : Nat} (hy : y < 2 ^ e) : matchDistance t e y ≤ 64 * 2 ^ e := by
  have ht : t.val * 2 ^ e ≤ 63 * 2 ^ e := Nat.mul_le_mul_right _ (Nat.le_of_lt_succ t.isLt)
  rw [matchDistance, Nat.shiftLeft_eq]
  omega

theorem distExtra_le {length dict : Nat} (hdict : dict ≤ 6) : distExtra length dict ≤ 6 := by
  unfold distExtra
  split <;> omega

/-- Settles O54: no decodable distance at a legal `dict` exceeds the 4096 bytes at which `fill` saturates. -/
theorem fillGivesSameVerdict : Obligations.FillGivesSameVerdict := by
  refine fun s => ⟨rfl, fun length t y _ hdict hy => ?_⟩
  have hle : Claims.distanceAt s length t y ≤ 4096 :=
    (matchDistance_le hy).trans (Nat.mul_le_mul_left 64 (Nat.pow_le_pow_right (by decide) (distExtra_le hdict)))
  rw [State.fill]
  omega

theorem phaseCode_le (p : Phase) : p.code ≤ 4 := by cases p <;> decide

theorem errCode_le (k : ErrKind) : errCode k ≤ 5 := by cases k <;> decide

theorem litSrcCode_eq (l : LitTableSource) : litSrcCode l = (l == .stream).toNat := by cases l <;> rfl

/-- A field of a word given as a number. -/
theorem extractLsb'_ofNat {n lo width v : Nat} (hn : n < 2 ^ 32) (h : n / 2 ^ lo % 2 ^ width = v % 2 ^ width) :
    (BitVec.ofNat 32 n).extractLsb' lo width = BitVec.ofNat width v := by
  apply BitVec.eq_of_toNat_eq
  rw [BitVec.extractLsb'_toNat, BitVec.toNat_ofNat, BitVec.toNat_ofNat, Nat.mod_eq_of_lt hn,
    Nat.shiftRight_eq_div_pow, h]

theorem ofBool_eq_ofNat (b : Bool) : BitVec.ofBool b = BitVec.ofNat 1 b.toNat := by cases b <;> rfl

/-- Settles O57: `STATUS` is a sum of fields, each below the next one's place value (R33). -/
theorem statusLayout : Obligations.StatusLayout := by
  refine ⟨fun s => ?_, by decide, rfl, rfl⟩
  have hphase := phaseCode_le s.phase
  have herr := errCode_le s.err
  have hcoded := s.litCoded.toNat_le
  have hdict := s.dict.isLt
  have hsrc := (s.litSrc == .stream).toNat_le
  have hdictNat : s.dict = BitVec.ofNat 3 s.dict.toNat := by simp
  rw [hdictNat, ofBool_eq_ofNat, ofBool_eq_ofNat, State.status, litSrcCode_eq]
  have hfield := @extractLsb'_ofNat (s.phase.code + errCode s.err * 2 ^ 4 + s.litCoded.toNat * 2 ^ 8 +
    s.dict.toNat * 2 ^ 9 + (s.litSrc == .stream).toNat * 2 ^ 12)
  exact ⟨hfield (by omega) (by omega), hfield (v := 0) (by omega) (by omega), hfield (by omega) (by omega),
    hfield (v := 0) (by omega) (by omega), hfield (by omega) (by omega), hfield (by omega) (by omega),
    hfield (by omega) (by omega), hfield (v := 0) (by omega) (by omega)⟩

/-- Settles O58: the register view is one case per number, at every width (R34, R35). -/
theorem registerView : Obligations.RegisterView := by
  intro w s
  refine ⟨rfl, by cases w <;> rfl, by cases w <;> rfl, fun n hn => ?_, fun _ _ => rfl⟩
  obtain ⟨m, rfl⟩ := Nat.exists_eq_add_of_le' hn
  rfl

/-- Settles O59: the host's reset writes each piece of state, and both counters are 0 at every width (R37). -/
theorem hostResetValues : Obligations.HostResetValues := by
  intro src s
  have hcounter : ∀ w, State.visibleCounter w 0 = 0 := fun w => by cases w <;> simp [State.visibleCounter]
  refine ⟨rfl, rfl, rfl, rfl, rfl, rfl, fun _ => rfl, rfl, fun _ => rfl, rfl, rfl, ?_, by decide, rfl,
    fun w => ⟨hcounter w, hcounter w⟩, rfl, rfl, rfl⟩
  cases hsrc : s.litSrc <;> simp [State.status, hsrc, Phase.code, errCode]

end Sys2Proof.Machine

/-! SUPPORT. Reading on another input: a read looks at no byte beyond those it has requested (R45, R87, R157). -/

namespace Sys2Proof

/-! ## The reader on another input -/

/-- The reader at the same position of another input. -/
def BitReader.onSrc (src : List Byte) (r : BitReader) : BitReader := { r with src := src }

namespace BitReader

theorem bump_onSrc (src : List Byte) (r : BitReader) : (r.onSrc src).bump = r.bump.onSrc src := by
  unfold bump onSrc
  split <;> rfl

theorem advance_onSrc (src : List Byte) (r : BitReader) (n : Nat) :
    (r.onSrc src).advance n = (r.advance n).onSrc src := by
  induction n generalizing r with
  | zero => rfl
  | succ n ih => rw [advance_succ, bump_onSrc, ih, ← advance_succ]

/-- The bytes requested are the bits consumed, rounded up to whole bytes (R45, R77). -/
theorem requested_eq (r : BitReader) : r.requested = (r.inBits + 7) / 8 := by
  have hlt := r.bitPos.isLt
  unfold requested inBits
  split
  case isTrue h => simp only [h, Fin.val_zero]; omega
  case isFalse h =>
    have hpos : r.bitPos.val ≠ 0 := fun h0 => h (Fin.ext h0)
    omega

theorem requested_mono {r r' : BitReader} (h : r.inBits ≤ r'.inBits) : r.requested ≤ r'.requested := by
  rw [requested_eq, requested_eq]
  omega

/-- A bit's byte has been requested once the bit has been read. -/
theorem bytePos_lt_requested_bump (r : BitReader) : r.bytePos < r.bump.requested := by
  rw [requested_eq, bump_inBits, inBits]
  omega

end BitReader

/-- Inputs that agree on some bytes agree on fewer. -/
theorem take_eq_of_le {src src' : List Byte} {m n : Nat} (h : src'.take n = src.take n) (hmn : m ≤ n) :
    src'.take m = src.take m := by
  simpa [List.take_take, Nat.min_eq_left hmn] using congrArg (List.take m) h

/-- Inputs that agree on some bytes agree on each of them. -/
theorem getElem?_eq_of_take {src src' : List Byte} {i n : Nat} (h : src'.take n = src.take n) (hi : i < n) :
    src'[i]? = src[i]? := by
  rw [← List.getElem?_take_of_lt hi, h, List.getElem?_take_of_lt hi]

/-! ## A read that looks no further than it has requested -/

/-- The read's answer with the reader on another input. -/
def Read.onSrc {α : Type} (src : List Byte) : Read α → Read α
  | .ok a r => .ok a (r.onSrc src)
  | .bad k info r => .bad k info (r.onSrc src)

/-- The read did not run out of input, and the other input agrees with its own on the bytes requested by its end. -/
structure Read.SeenBy {α : Type} (src' : List Byte) (m : Read α) : Prop where
  agrees : src'.take m.reader.requested = m.reader.src.take m.reader.requested
  notEnded : ∀ info r, m ≠ .bad .unexpectedEndOfInput info r

/-- The reading function goes on in its input, and answers the same on every input that shows it the same bytes
(R157). -/
structure ReadsNoFurther {α : Type} (f : BitReader → Read α) : Prop where
  onward : ∀ r, (f r).Onward r
  onSrc : ∀ src' r, (f r).SeenBy src' → f (r.onSrc src') = (f r).onSrc src'

namespace ReadsNoFurther

theorem ok {α : Type} (a : α) : ReadsNoFurther fun r => .ok a r := ⟨Read.onward_ok a, fun _ _ _ => rfl⟩

/-- What the first read has seen is part of what both reads have seen. -/
theorem bind {α β : Type} {f : BitReader → Read α} {g : α → BitReader → Read β} (hf : ReadsNoFurther f)
    (hg : ∀ a, ReadsNoFurther (g a)) : ReadsNoFurther fun r => (f r).bind g := by
  refine ⟨fun r => (hf.onward r).bind fun a => (hg a).onward, fun src' r hseen => ?_⟩
  have hfirst := hf.onSrc src' r
  cases hread : f r with
  | bad k info r₁ =>
    rw [hread] at hfirst hseen
    rw [hfirst ⟨hseen.agrees, fun info' r' h => hseen.notEnded info' r' (by cases h; rfl)⟩]
    rfl
  | ok a r₁ =>
    rw [hread] at hfirst hseen
    have hreach := ((hg a).onward r₁).reaches
    have hagrees : src'.take r₁.requested = r₁.src.take r₁.requested :=
      hreach.src_eq ▸ take_eq_of_le hseen.agrees (BitReader.requested_mono hreach.inBits_le)
    rw [hfirst ⟨hagrees, nofun⟩]
    exact (hg a).onSrc src' r₁ hseen

theorem nextBit : ReadsNoFurther BitReader.nextBit := by
  refine ⟨BitReader.nextBit_onward, fun src' r ⟨hagrees, hended⟩ => ?_⟩
  cases hv : r.src[r.bytePos]? with
  | none => exact absurd (by simp [BitReader.nextBit, hv]) (hended (.atBit r.inBits) r)
  | some v =>
    have hread : r.nextBit = .ok (v.getLsbD r.bitPos.val) r.bump := by simp [BitReader.nextBit, hv]
    rw [hread] at hagrees
    have hv' : src'[r.bytePos]? = some v := by
      rw [← hv, ← r.bump_src]
      exact getElem?_eq_of_take hagrees r.bytePos_lt_requested_bump
    have hread' : (r.onSrc src').nextBit = .ok (v.getLsbD r.bitPos.val) (r.onSrc src').bump := by
      simp [BitReader.nextBit, BitReader.onSrc, hv']
    rw [hread, hread', BitReader.bump_onSrc, Read.onSrc]

theorem nextBits (n : Nat) : ReadsNoFurther (BitReader.nextBits n) := by
  induction n with
  | zero => exact ok 0
  | succ n ih => exact nextBit.bind fun _ => ih.bind fun _ => ok _

theorem huffLoop (table : TableId) (lens : List Nat) (n L code first index : Nat) :
    ReadsNoFurther (huffLoop table lens n L code first index) := by
  induction n generalizing L code first index with
  | zero => exact ⟨fun r => huffLoop_onward .., fun _ _ _ => rfl⟩
  | succ n ih =>
    refine nextBit.bind fun b => ?_
    dsimp only
    split
    · exact ok _
    · exact ih ..

theorem huffDecode (table : TableId) (lens : List Nat) : ReadsNoFurther (huffDecode table lens) := huffLoop ..

theorem decodeLen : ReadsNoFurther decodeLen := (huffDecode ..).bind fun _ => (nextBits _).bind fun _ => ok _

theorem decodeDist (e : Nat) : ReadsNoFurther (decodeDist e) :=
  (huffDecode ..).bind fun _ => (nextBits e).bind fun _ => ok _

theorem decodeLit (lens : List Nat) : ReadsNoFurther (decodeLit lens) := (huffDecode ..).bind fun _ => ok _

theorem decodeMatch (dict : Nat) : ReadsNoFurther (decodeMatch dict) := by
  refine decodeLen.bind fun p => ?_
  split
  · exact ok _
  · exact (decodeDist _).bind fun _ => ok _

theorem decodeOp (c : Ctx) : ReadsNoFurther (decodeOp c) := by
  cases c with
  | header => exact (nextBits 8).bind fun _ => (nextBits 8).bind fun _ => ok _
  | fixedTable => exact ok _
  | tableUnit => exact (nextBits 8).bind fun _ => ok _
  | litCode lens => exact (decodeLit lens).bind fun _ => ok _
  | lenCode => exact decodeLen.bind fun _ => ok _
  | distCode length dict =>
    unfold Sys2Proof.decodeOp
    exact (decodeDist (distExtra length dict)).bind fun _ => ok _
  | token lits dict =>
    refine nextBit.bind fun b => ?_
    cases b with
    | true => exact decodeMatch dict
    | false =>
      cases lits with
      | none => exact (nextBits 8).bind fun _ => ok _
      | some lens => exact (decodeLit lens).bind fun _ => ok _

theorem decode (c : Ctx) : ReadsNoFurther (decode c) := (decodeOp c).bind fun _ => ok _

end ReadsNoFurther

/-! ## The bits consumed at a table that need not be accepted -/

/-- The context's literal table has a length of 0 to 15 for each of the 256 literals, which is all that `lit_len` itself
guarantees (R23). Off the invariant the table may be over-subscribed and `dict` may be any, so `Ctx.wf` need not hold. -/
def Ctx.TableShaped : Ctx → Prop
  | .token (some lens) _ => lens.length = 256 ∧ ∀ l ∈ lens, l < 16
  | .litCode lens => lens.length = 256 ∧ ∀ l ∈ lens, l < 16
  | _ => True

theorem decodeLit_ok_of_shaped {lens : List Nat} {v : Byte} {r r' : BitReader}
    (hlens : lens.length = 256 ∧ ∀ l ∈ lens, l < 16) (h : decodeLit lens r = .ok v r') :
    lens.getD v.toNat 0 ≠ 0 ∧ r' = r.advance (lens.getD v.toNat 0) := by
  obtain ⟨hlen, hlt⟩ := hlens
  obtain ⟨c, r₁, hc, h⟩ := Read.bind_eq_ok.1 h
  cases h
  obtain ⟨hclt, hcode, rfl⟩ := huffDecode_ok hlt hc
  rw [BitVec.toNat_ofNat, Nat.mod_eq_of_lt (by omega)]
  exact ⟨hcode, rfl⟩

/-- A decoded operation fits its context and its bits have been consumed (R58, R59), whether or not the engine would
have accepted the table. -/
theorem decodeOp_ok_of_shaped {c : Ctx} {op : Op} {r r' : BitReader} (hc : c.TableShaped)
    (h : decodeOp c r = .ok op r') : opFits c op = true ∧ r' = r.advance (opWidth c op) := by
  cases c with
  | header | fixedTable | tableUnit | lenCode => exact decodeOp_ok rfl h
  | litCode lens =>
    obtain ⟨v, r₁, hv, h⟩ := Read.bind_eq_ok.1 h
    cases h
    obtain ⟨hcode, hr⟩ := decodeLit_ok_of_shaped hc hv
    exact ⟨bne_iff_ne.2 hcode, hr⟩
  | distCode length dict =>
    rw [decodeOp, Read.bind_eq_ok] at h
    obtain ⟨q, r₁, hq, h⟩ := h
    cases h
    obtain ⟨hy, hr⟩ := decodeDist_ok hq
    exact ⟨decide_eq_true hy, hr⟩
  | token lits dict =>
    obtain ⟨b, r₁, hb, h⟩ := Read.bind_eq_ok.1 h
    obtain rfl := BitReader.nextBit_ok hb
    cases b with
    | true => exact decodeMatch_ok lits h
    | false =>
      cases lits with
      | none =>
        obtain ⟨v, r₂, hv, h⟩ := Read.bind_eq_ok.1 h
        cases h
        exact ⟨rfl, by rw [(BitReader.nextBits_ok hv).2, ← BitReader.advance_add, opWidth]⟩
      | some lens =>
        obtain ⟨v, r₂, hv, h⟩ := Read.bind_eq_ok.1 h
        cases h
        obtain ⟨hcode, hr⟩ := decodeLit_ok_of_shaped hc hv
        exact ⟨bne_iff_ne.2 hcode, by rw [hr, ← BitReader.advance_add, opWidth, Ctx.lits]⟩

theorem decode_advance {c : Ctx} {i : Instr} {r r' : BitReader} (hc : c.TableShaped) (h : decode c r = .ok i r') :
    r' = r.advance (opWidth c i.op) := by
  obtain ⟨op, r₁, hop, h⟩ := Read.bind_eq_ok.1 h
  cases h
  obtain ⟨hfits, hr⟩ := decodeOp_ok_of_shaped hc hop
  rw [op_ofOp hfits]
  exact hr

end Sys2Proof

/-! SUPPORT. The machine on another input: only reading depends on the input, so a step depends on the bytes it reads. -/

namespace Sys2Proof.Machine

open Sys2Proof.Claims

namespace State

/-! ## Everything but reading leaves the input alone -/

variable {src : List Byte} {s t : State}

@[simp] theorem withSrc_reader : (withSrc src s).reader = s.reader.onSrc src := rfl
@[simp] theorem withSrc_ltN : (withSrc src s).ltN = s.ltN := rfl
@[simp] theorem withSrc_litLens : (withSrc src s).litLens = s.litLens := rfl
@[simp] theorem withSrc_produced : (withSrc src s).produced = s.produced := rfl
@[simp] theorem withSrc_memRead (a : Nat) : (withSrc src s).memRead a = s.memRead a := rfl
@[simp] theorem withSrc_expects : (withSrc src s).expects = s.expects := rfl
@[simp] theorem withSrc_atTable : (withSrc src s).atTable = s.atTable := rfl

theorem advance_withSrc (n : Nat) : (withSrc src s).advance n = withSrc src (s.advance n) := by
  have hreader := BitReader.advance_onSrc src s.reader n
  simp only [advance, withSrc_reader, hreader]
  rfl

theorem assignLens_withSrc (l : BitVec 4) (n : Nat) :
    (withSrc src s).assignLens l n = withSrc src (s.assignLens l n) := by
  induction n generalizing s with
  | zero => rfl
  | succ n ih => rw [assignLens, assignLens, ← ih]; rfl

theorem copyBytes_withSrc {distance length : Nat} (h : s.copyBytes distance length = some t) :
    (withSrc src s).copyBytes distance length = some (withSrc src t) := by
  induction length generalizing s with
  | zero => cases h; rfl
  | succ n ih =>
    rw [copyBytes, withSrc_produced, withSrc_memRead]
    rw [copyBytes] at h
    cases hread : s.memRead ((s.produced - distance) % Config.winPhys) with
    | none => simp [hread] at h
    | some b => exact ih (by simpa [hread] using h)

theorem copyBack_withSrc {distance length : Nat} (h : s.copyBack distance length = .next t) :
    (withSrc src s).copyBack distance length = .next (withSrc src t) := by
  rcases copyBack_cases distance length s with ⟨hd, hr⟩ | ⟨hd, ⟨u, hu, hr⟩ | ⟨-, hr⟩⟩
  · rw [hr] at h
    cases h
    rw [copyBack, withSrc_produced, if_pos hd]
    rfl
  · rw [hr] at h
    cases h
    rw [copyBack, withSrc_produced, if_neg (Nat.not_lt.2 hd), copyBytes_withSrc hu]
  · rw [hr] at h
    cases h

theorem closeTable_withSrc (h : s.closeTable = .next t) : (withSrc src s).closeTable = .next (withSrc src t) := by
  rcases closeTable_cases s with ⟨hn, hr⟩ | ⟨hn, hr⟩ | ⟨hn, ⟨-, hr⟩ | ⟨lens, hl, hk, hr⟩ | ⟨lens, hl, hk, hr⟩⟩
  · rw [hr] at h
    cases h
    exact if_pos hn
  · rw [hr] at h
    cases h
    exact (if_neg (Nat.lt_asymm hn)).trans (if_pos hn.ne')
  · rw [hr] at h
    cases h
  · rw [hr] at h
    cases h
    simp only [closeTable, withSrc_ltN, withSrc_litLens, hn, hl, if_pos hk]
    rfl
  · rw [hr] at h
    cases h
    simp only [closeTable, withSrc_ltN, withSrc_litLens, hn, hl, if_neg hk]
    rfl

end State

theorem headerEffect_withSrc (src : List Byte) (L D : Byte) (s : State) :
    headerEffect L D (withSrc src s) = withSrc src (headerEffect L D s) := by
  unfold headerEffect
  split <;> rfl

/-- An operation's effect, its bits consumed, does not depend on the input. -/
theorem opEffect_withSrc {src : List Byte} {op : Op} {c : Ctx} {s t : State} (h : opEffect op c s = .next t) :
    opEffect op c (withSrc src s) = .next (withSrc src t) := by
  cases op with
  | hdr L D => cases h; rw [opEffect, headerEffect_withSrc]
  | ltp l r => rw [opEffect, State.assignLens_withSrc]; exact State.closeTable_withSrc h
  | littabFixed | litRaw | litCoded | endOfStream | lit => cases h; rfl
  | matchRef sym x t y => exact State.copyBack_withSrc h
  | len sym x =>
    cases h
    rw [opEffect]
    split <;> rfl
  | dist t y =>
    cases c with
    | distCode length dict => exact State.copyBack_withSrc (s := { s with field := .none }) h
    | header | fixedTable | tableUnit | token | litCode | lenCode => cases h

/-! ## An item, a table and a step on another input -/

theorem stepItem_of_ok {s : State} {c : Ctx} {i : Instr} {r : BitReader} (hexp : s.expects = .ctx c)
    (hd : decode c s.reader = .ok i r) (hfits : opFits c i.op = true) :
    stepItem s = opEffect i.op c (s.advance (opWidth c i.op)) := by
  rw [← runWhen_of_fits (opEffect i.op) hexp hfits, ← runOp_eq_runWhen, ← exec_eq_runOp]
  simp [stepItem, hexp, hd]

theorem stepItem_of_bad {s : State} {c : Ctx} {k : ErrKind} {info : Info} {r : BitReader} (hexp : s.expects = .ctx c)
    (hd : decode c s.reader = .bad k info r) : stepItem s = .next ({ s with reader := r }.raise k info) := by
  simp [stepItem, hexp, hd]

theorem State.litLens_shape {s : State} {lens : List Nat} (h : s.litLens = some lens) :
    lens.length = 256 ∧ ∀ l ∈ lens, l < 16 := by
  obtain ⟨hcells, rfl⟩ := State.litLens_eq_some.1 h
  refine ⟨by simpa using congrArg List.length hcells, fun l hl => ?_⟩
  obtain ⟨c, -, rfl⟩ := List.mem_map.1 hl
  exact c.2.isLt

theorem State.AtCtx.tableShaped {s : State} {c : Ctx} (hc : s.AtCtx c) : c.TableShaped := by
  cases c with
  | token lits dict =>
    cases lits with
    | none => trivial
    | some lens =>
      obtain ⟨-, -, -, -, hlens⟩ := hc
      exact State.litLens_shape hlens
  | litCode lens =>
    obtain ⟨-, -, hlens⟩ := hc
    exact State.litLens_shape hlens
  | header | fixedTable | tableUnit | lenCode | distCode => trivial

/-- An item that raised no end of input answers the same on every input that shows it the same bytes. In a table the
item's field tells that nothing was raised, whatever `err` holds. -/
theorem stepItem_withSrc {s t : State} {src' : List Byte} (h : stepItem s = .next t)
    (hend : t.err ≠ .unexpectedEndOfInput ∨ t.field ≠ .none)
    (hagree : src'.take t.reader.requested = s.reader.src.take t.reader.requested) :
    stepItem (withSrc src' s) = .next (withSrc src' t) := by
  obtain ⟨c, hexp, hcase⟩ := stepItem_next h
  have hread := (ReadsNoFurther.decode c).onSrc src' s.reader
  have hsrc := (decode_onward c s.reader).reaches.src_eq
  rcases hcase with ⟨i, r, hd, hfits, heff⟩ | ⟨k, info, r, hd, rfl⟩
  · have hr := decode_advance (State.atCtx_of_expects hexp).tableShaped hd
    have hreader : t.reader = r := (opEffect_extends heff).reader.trans hr.symm
    rw [hd] at hread hsrc
    rw [hreader, ← hsrc] at hagree
    rw [stepItem_of_ok (State.withSrc_expects.trans hexp) (hread ⟨hagree, nofun⟩) hfits, State.advance_withSrc]
    exact opEffect_withSrc heff
  · have hk : k ≠ .unexpectedEndOfInput := hend.resolve_right (not_not_intro rfl)
    rw [hd] at hread hsrc
    rw [State.raise_reader, ← hsrc] at hagree
    rw [stepItem_of_bad (State.withSrc_expects.trans hexp) (hread ⟨hagree, fun _ _ hbad => hk (by cases hbad; rfl)⟩)]
    rfl

theorem tableLoop_withSrc {n : Nat} {s t : State} {src' : List Byte} (hs : s.field = .unit)
    (h : tableLoop n s = .next t) (hend : t.err ≠ .unexpectedEndOfInput)
    (hagree : src'.take t.reader.requested = s.reader.src.take t.reader.requested) :
    tableLoop n (withSrc src' s) = .next (withSrc src' t) := by
  induction n generalizing s with
  | zero => cases h; rfl
  | succ n ih =>
    rw [tableLoop] at h
    cases hitem : stepItem s with
    | fault f => simp [hitem] at h
    | refused q => simp [hitem] at h
    | next u =>
      simp only [hitem] at h
      split at h
      case isFalse hu =>
        cases h
        rw [tableLoop, stepItem_withSrc hitem (.inl hend) hagree]
        exact if_neg hu
      case isTrue hu =>
        have hsrc := (stepItem_goesOn hitem).src_eq
        have hgoes : u.GoesOn t :=
          tableLoop_induction State.GoesOn.refl (fun _ _ _ => .trans) (fun _ _ _ => stepItem_goesOn) hu h
        have hfirst := take_eq_of_le hagree (BitReader.requested_mono hgoes.inBits_le)
        rw [tableLoop, stepItem_withSrc hitem (.inr (by simp [hu])) hfirst]
        exact (if_pos hu).trans (ih hu h (hsrc ▸ hagree))

/-- Settles O26: a step is one item or the loop of a table, and either looks only at bytes it has requested. -/
theorem noReadAhead : Obligations.NoReadAhead := by
  intro s t src' h hend hagree
  by_cases htable : s.atTable = true
  · rw [step_of_atTable htable] at h
    rw [step_of_atTable (State.withSrc_atTable.trans htable)]
    exact tableLoop_withSrc (s := s.openTable) rfl h hend hagree
  · rw [Bool.not_eq_true] at htable
    rw [step_of_not_atTable htable] at h
    rw [step_of_not_atTable (State.withSrc_atTable.trans htable)]
    exact stepItem_withSrc h (.inl hend) hagree

end Sys2Proof.Machine

/-! SUPPORT. Canonical codes: what a Huffman code's bits are, bit by bit, and that the loop of R86 reads exactly
them. -/

namespace Sys2Proof

/-! ## Bit strings of a value -/

/-- The `n` low bits of a code value, most-significant bit first, each bit complemented (R84, R86). -/
def codeValueBits (n v : Nat) : List Bit := (List.range n).map fun i => !v.testBit (n - 1 - i)

theorem codeBits_eq (lens : List Nat) (s : Nat) :
    codeBits lens s = codeValueBits (lens.getD s 0) (Huffman.codeValue lens s) := rfl

@[simp] theorem codeBits_length (lens : List Nat) (s : Nat) : (codeBits lens s).length = lens.getD s 0 := by
  simp [codeBits]

@[simp] theorem rawBits_length (n v : Nat) : (rawBits n v).length = n := by simp [rawBits]

theorem testBit_add_two_mul (b : Bit) (v i : Nat) :
    (b.toNat + 2 * v).testBit i = if i = 0 then b else v.testBit (i - 1) := by
  cases i with
  | zero => cases b <;> simp [Nat.testBit_zero, Nat.add_mod]
  | succ i =>
    have hdiv : (b.toNat + 2 * v) / 2 = v := by have := b.toNat_le; omega
    simp [Nat.testBit_succ, hdiv]

/-- A raw field read bit by bit: the first bit is bit 0 (R80). -/
theorem rawBits_succ (n : Nat) (b : Bit) (v : Nat) : rawBits (n + 1) (b.toNat + 2 * v) = b :: rawBits n v := by
  simp [rawBits, List.range_succ_eq_map, testBit_add_two_mul]

theorem codeValueBits_succ (n v : Nat) : codeValueBits (n + 1) v = (!v.testBit n) :: codeValueBits n v := by
  rw [codeValueBits, List.range_succ_eq_map, List.map_cons, List.map_map]
  refine congrArg₂ _ (by simp) (List.map_congr_left fun i _ => ?_)
  simp [Nat.sub_sub, Nat.add_comm]

/-- The value of a code one bit further: the loop of R86 doubles it and adds the complement of the bit. -/
theorem codeValueBits_snoc (n v : Nat) (b : Bit) :
    codeValueBits (n + 1) (2 * v + (1 - b.toNat)) = codeValueBits n v ++ [b] := by
  have hval : 2 * v + (1 - b.toNat) = (!b).toNat + 2 * v := by cases b <;> simp [Nat.add_comm]
  rw [hval, codeValueBits, List.range_succ, List.map_append]
  refine congrArg₂ _ (List.map_congr_left fun i hi => ?_) ?_
  · have hlt := List.mem_range.1 hi
    rw [testBit_add_two_mul, if_neg (by omega)]
    congr 2
    omega
  · simp [testBit_add_two_mul]

/-- The other way round: a code value's upper bits, joined by the complement of the next bit of the code. -/
theorem two_mul_shiftRight_succ (v m : Nat) : 2 * (v >>> (m + 1)) + (1 - (!v.testBit m).toNat) = v >>> m := by
  have hbit : (v >>> m) % 2 = (v.testBit m).toNat := by
    rw [Nat.toNat_testBit, Nat.shiftRight_eq_div_pow]
  have hnot : 1 - (!v.testBit m).toNat = (v.testBit m).toNat := by cases v.testBit m <;> rfl
  rw [Nat.shiftRight_succ, hnot, ← hbit]
  omega

/-! ## Canonical code values (R84, R85) -/

namespace Huffman

theorem first_succ_succ (lens : List Nat) (k : Nat) :
    first lens (k + 2) = 2 * (first lens (k + 1) + count lens (k + 1)) := rfl

/-- Codes of length `k + 1`, extended to a greater length, all lie below the first code of that length (R84). -/
theorem first_add_count_le (lens : List Nat) (k m : Nat) :
    (first lens (k + 1) + count lens (k + 1)) * 2 ^ (m + 1) ≤ first lens (k + m + 2) := by
  induction m with
  | zero => rw [Nat.add_zero, first_succ_succ]; omega
  | succ m ih =>
    rw [← Nat.add_assoc, first_succ_succ, Nat.pow_succ, ← Nat.mul_assoc, Nat.mul_comm]
    exact Nat.mul_le_mul_left 2 (ih.trans (Nat.le_add_right ..))

theorem getD_mem {lens : List Nat} {s : Nat} (hs : s < lens.length) : lens.getD s 0 ∈ lens := by
  rw [List.getD_eq_getElem _ _ hs]
  exact List.getElem_mem hs

/-- Symbols before `s` with its length are fewer than all symbols of that length (R84). -/
theorem codeValue_lt {lens : List Nat} {s : Nat} (hs : s < lens.length) :
    codeValue lens s < first lens (lens.getD s 0) + count lens (lens.getD s 0) := by
  have hsplit : (lens.take s).count (lens.getD s 0) + (lens.drop s).count (lens.getD s 0) =
      count lens (lens.getD s 0) := by rw [← List.count_append, List.take_append_drop]; rfl
  have hmem : 0 < (lens.drop s).count (lens.getD s 0) := by
    rw [List.count_pos_iff, List.getD_eq_getElem _ _ hs, List.drop_eq_getElem_cons hs]
    exact List.mem_cons_self
  rw [codeValue]
  omega

/-- A symbol's place among the symbols of its length is the number of those before it (R84). -/
theorem symbolsOfLength_getElem? {lens : List Nat} {s L : Nat} (hs : s < lens.length) (hL : lens.getD s 0 = L) :
    (symbolsOfLength lens L)[(lens.take s).count L]? = some s := by
  rw [List.getD_eq_getElem _ _ hs] at hL
  have hsplit : lens = lens.take s ++ L :: lens.drop (s + 1) := by
    rw [← hL, ← List.drop_eq_getElem_cons hs, List.take_append_drop]
  have hbefore : (symbolsOfLength (lens.take s) L).length = (lens.take s).count L := symbolsOfLength_length ..
  have hnext : symbolsOfLength lens L = symbolsOfLength (lens.take s) L ++
      s :: ((lens.drop (s + 1)).zipIdx (s + 1)).filterMap fun p => if p.1 = L then some p.2 else none := by
    conv_lhs => rw [hsplit, symbolsOfLength, List.zipIdx_append, List.filterMap_append]
    simp [symbolsOfLength, List.zipIdx_cons, Nat.min_eq_left hs.le]
  rw [hnext, ← hbefore, List.getElem?_append_right (Nat.le_refl _)]
  simp

theorem symbolsOfLength_nodup (lens : List Nat) (L : Nat) : (symbolsOfLength lens L).Nodup := by
  refine List.Pairwise.filterMap _ (R := fun p q => p.2 ≠ q.2) ?_
    (List.pairwise_map.1 (List.nodup_zipIdx_map_snd lens))
  intro p q hne a ha b hb
  simp only [Option.ite_none_right_eq_some, Option.some.injEq] at ha hb
  rw [← ha.2, ← hb.2]
  exact hne

/-- The `j`-th symbol of a code length has `j` symbols of that length before it, so the `j`-th code (R84). -/
theorem codeValue_symbolsOfLength {lens : List Nat} {L j s : Nat} (h : (symbolsOfLength lens L)[j]? = some s) :
    codeValue lens s = first lens L + j := by
  obtain ⟨hs, hL⟩ := mem_symbolsOfLength (List.mem_of_getElem? h)
  have hplace := symbolsOfLength_getElem? hs hL
  rw [codeValue, hL]
  congr 1
  exact (List.getElem?_inj (List.getElem?_eq_some_iff.1 hplace).1 (symbolsOfLength_nodup lens L)).1
    (hplace.trans h.symm)

/-- A verdict other than `over` bounds the codes of each length it looks at by the code space (R85); `left` is the code
space that shorter codes leave. -/
theorem codes_fit_of_kraftFrom {lens : List Nat} {n L left : Nat} (hleft : 2 * left + first lens (L + 1) = 2 ^ (L + 1))
    (h : kraftFrom lens n (L + 1) left ≠ .over) {k : Nat} (hk : L ≤ k) (hn : k < L + n) :
    first lens (k + 1) + count lens (k + 1) ≤ 2 ^ (k + 1) := by
  induction n generalizing L left with
  | zero => omega
  | succ n ih =>
    rw [kraftFrom] at h
    split at h
    case isTrue => exact absurd rfl h
    case isFalse hfit =>
      rcases Nat.eq_or_lt_of_le hk with rfl | hk
      · omega
      · refine ih ?_ h hk (by omega)
        rw [first_succ_succ, Nat.pow_succ]
        omega

/-- In a table that is not over-subscribed each code fits its length (R85). -/
theorem codeValue_lt_two_pow {lens : List Nat} {s : Nat} (hlens : ∀ l ∈ lens, l < 16) (hk : kraft lens ≠ .over)
    (hs : s < lens.length) (hcode : lens.getD s 0 ≠ 0) : codeValue lens s < 2 ^ lens.getD s 0 := by
  have hlt := hlens _ (getD_mem hs)
  have hbelow := codeValue_lt hs
  obtain ⟨k, hlen⟩ := Nat.exists_eq_succ_of_ne_zero hcode
  rw [hlen] at hbelow hlt ⊢
  exact hbelow.trans_le (codes_fit_of_kraftFrom (L := 0) (left := 1) rfl hk (Nat.zero_le k) (by omega))

theorem le_maxlen {lens : List Nat} {l : Nat} (h : l ∈ lens) : l ≤ maxlen lens := by
  have hmax : maxlen lens = lens.foldr max 0 := List.foldl_eq_foldr ..
  rw [hmax]
  exact List.le_max_of_le' _ h (Nat.le_refl l)

end Huffman

/-! ## The loop of `HuffDecode` reads exactly the codes (R86) -/

open Huffman

/-- The symbol that the loop answers at a place among the symbols of a code length (R86). -/
theorem symbols_getD {lens : List Nat} {k j s : Nat} (hk : k < 15) (h : (symbolsOfLength lens (k + 1))[j]? = some s) :
    (symbols lens).getD ((symbolsUpTo lens k).length + j) 0 = s := by
  obtain ⟨hj, -⟩ := List.getElem?_eq_some_iff.1 h
  obtain ⟨rest, hrest⟩ := symbolsUpTo_mono lens (Nat.succ_le_of_lt hk)
  rw [symbols_eq_symbolsUpTo, ← hrest, symbolsUpTo_succ, List.append_assoc, List.getD_append_right _ _ _ _ (by omega),
    Nat.add_sub_cancel_left, List.getD_append _ _ _ _ hj, List.getD_eq_getElem?_getD, h]
  rfl

/-- The loop's index counts the symbols with shorter codes. -/
theorem symbolsUpTo_length_succ (lens : List Nat) (k : Nat) :
    (symbolsUpTo lens k).length + count lens (k + 1) = (symbolsUpTo lens (k + 1)).length := by
  rw [symbolsUpTo_succ, List.length_append, symbolsOfLength_length]

theorem nextBit_codeValueBits {m v : Nat} {r : BitReader} {rest : List Bit}
    (hbits : r.bits = codeValueBits (m + 1) v ++ rest) :
    r.nextBit = .ok (!v.testBit m) r.bump ∧ r.bump.bits = codeValueBits m v ++ rest :=
  BitReader.nextBit_cons (by rw [hbits, codeValueBits_succ, List.cons_append])

/-- One round of the loop on the next bit of a code value `v`, with `m` more of its bits to come (R86). -/
theorem huffLoop_codeValueBits_succ {table : TableId} {lens : List Nat} {n L first index m v : Nat} {r : BitReader}
    {rest : List Bit} (hbits : r.bits = codeValueBits (m + 1) v ++ rest) :
    huffLoop table lens (n + 1) L (v >>> (m + 1)) first index r =
      if v >>> m < first + count lens L then .ok ((symbols lens).getD (index + (v >>> m - first)) 0) r.bump
      else huffLoop table lens n (L + 1) (v >>> m) (2 * (first + count lens L)) (index + count lens L) r.bump := by
  rw [huffLoop, (nextBit_codeValueBits hbits).1, Read.bind_ok, two_mul_shiftRight_succ]

/-- The loop after `k` bits, with `m + 1` bits of the symbol's code still to come: until the code is whole its value
lies past all codes as short as it (R84). -/
theorem huffLoop_codeValueBits {table : TableId} {lens : List Nat} {s n k m : Nat} {r : BitReader} {rest : List Bit}
    (hs : s < lens.length) (hlen : lens.getD s 0 = k + (m + 1)) (hk : k + (m + 1) < 16)
    (hbits : r.bits = codeValueBits (m + 1) (codeValue lens s) ++ rest) :
    huffLoop table lens (n + (m + 1)) (k + 1) (codeValue lens s >>> (m + 1)) (first lens (k + 1))
      (symbolsUpTo lens k).length r = .ok s (r.advance (m + 1)) := by
  induction m generalizing k r with
  | zero =>
    have hlt := codeValue_lt hs
    rw [hlen] at hlt
    have hplace : (symbolsOfLength lens (k + 1))[codeValue lens s - first lens (k + 1)]? = some s := by
      rw [codeValue, hlen, Nat.add_sub_cancel_left]
      exact symbolsOfLength_getElem? hs hlen
    rw [huffLoop_codeValueBits_succ hbits, Nat.shiftRight_zero, if_pos hlt, symbols_getD (by omega) hplace]
    rfl
  | succ m ih =>
    have hpast : first lens (k + 1) + count lens (k + 1) ≤ codeValue lens s >>> (m + 1) := by
      rw [Nat.shiftRight_eq_div_pow, Nat.le_div_iff_mul_le (Nat.two_pow_pos _), codeValue, hlen]
      exact (first_add_count_le lens k m).trans (Nat.le_add_right ..)
    rw [← Nat.add_assoc, huffLoop_codeValueBits_succ hbits, if_neg (Nat.not_lt.2 hpast), ← first_succ_succ,
      symbolsUpTo_length_succ]
    exact ih (by omega) (by omega) (nextBit_codeValueBits hbits).2

/-- Every answer of the loop comes from reading the answered symbol's code; `code` is the value of the bits read before
(R86). -/
theorem bits_of_huffLoop {table : TableId} {lens : List Nat} {n k code s : Nat} {r r' : BitReader} (hk : n + k ≤ 15)
    (hfirst : first lens (k + 1) ≤ 2 * code)
    (h : huffLoop table lens n (k + 1) code (first lens (k + 1)) (symbolsUpTo lens k).length r = .ok s r') :
    codeValueBits k code ++ r.bits = codeBits lens s ++ r'.bits := by
  induction n generalizing k code r with
  | zero => cases h
  | succ n ih =>
    rw [huffLoop] at h
    rcases r.nextBit_cases with ⟨b, rest, hbits, hok⟩ | ⟨-, hbad⟩
    case inr => rw [hbad] at h; cases h
    rw [hok, Read.bind_ok] at h
    dsimp only at h
    have hread : codeValueBits k code ++ r.bits = codeValueBits (k + 1) (2 * code + (1 - b.toNat)) ++ r.bump.bits := by
      rw [codeValueBits_snoc, (BitReader.nextBit_cons hbits).2, hbits, List.append_assoc, List.singleton_append]
    rw [hread]
    split at h
    case isTrue hlt =>
      obtain ⟨hsym, rfl⟩ : (symbols lens).getD _ 0 = s ∧ _ = r' := by simpa using h
      obtain ⟨s', hs'⟩ : ∃ s',
          (symbolsOfLength lens (k + 1))[2 * code + (1 - b.toNat) - first lens (k + 1)]? = some s' :=
        ⟨_, List.getElem?_eq_getElem (by rw [symbolsOfLength_length]; omega)⟩
      rw [symbols_getD (by omega) hs'] at hsym
      subst hsym
      rw [codeBits_eq, codeValue_symbolsOfLength hs', (mem_symbolsOfLength (List.mem_of_getElem? hs')).2,
        Nat.add_sub_cancel' (by omega)]
    case isFalse hge =>
      rw [← first_succ_succ, symbolsUpTo_length_succ] at h
      exact ih (by omega) (by rw [first_succ_succ]; omega) h

/-- `HuffDecode` answers a symbol exactly when the symbol's code is next, and reads that code (R84, R86). -/
theorem huffDecode_eq_ok_iff {table : TableId} {lens : List Nat} {s : Nat} {r r' : BitReader}
    (hlens : ∀ l ∈ lens, l < 16) (hk : kraft lens ≠ .over) :
    huffDecode table lens r = .ok s r' ↔
      (s < lens.length ∧ lens.getD s 0 ≠ 0) ∧ codeBits lens s <+: r.bits ∧ r' = r.advance (lens.getD s 0) := by
  constructor
  · intro h
    obtain ⟨hs, hcode, hr⟩ := huffDecode_ok hlens h
    have hmax := maxlen_le fun l hl => Nat.le_of_lt_succ (hlens l hl)
    exact ⟨⟨hs, hcode⟩, ⟨_, (bits_of_huffLoop (k := 0) (by omega) (Nat.le_refl 0) h).symm⟩, hr⟩
  · rintro ⟨⟨hs, hcode⟩, ⟨rest, hbits⟩, rfl⟩
    have hlt := hlens _ (getD_mem hs)
    have hmax := le_maxlen (getD_mem hs)
    have hzero : codeValue lens s >>> lens.getD s 0 = 0 :=
      Nat.shiftRight_eq_zero _ _ (codeValue_lt_two_pow hlens hk hs hcode)
    obtain ⟨m, hm⟩ := Nat.exists_eq_succ_of_ne_zero hcode
    rw [codeBits_eq] at hbits
    rw [hm] at hbits hzero hlt hmax ⊢
    obtain ⟨n, hn⟩ := Nat.exists_eq_add_of_le' hmax
    have hloop := huffLoop_codeValueBits (table := table) (n := n) (k := 0) hs (by omega) (by omega) hbits.symm
    rw [hzero] at hloop
    rw [huffDecode, hn]
    exact hloop

end Sys2Proof

/-! SUPPORT. What each reading function of the decoder reads: exactly the encoder's spellings (R57 to R69). -/

namespace Sys2Proof

/-! ## Reading functions and the spellings they read -/

/-- `f` reads exactly the spellings `R`: it answers `a` when, and only when, a spelling of `a` comes next, and it has
then read that spelling and no further. -/
def ReadsSpellings {α : Type} (f : BitReader → Read α) (R : α → List Bit → Prop) : Prop :=
  ∀ r a r', f r = .ok a r' ↔ ∃ bs, R a bs ∧ bs <+: r.bits ∧ r' = r.advance bs.length

namespace ReadsSpellings

variable {α β : Type} {f : BitReader → Read α} {R : α → List Bit → Prop}

theorem congr (hf : ReadsSpellings f R) {S : α → List Bit → Prop} (h : ∀ a bs, R a bs ↔ S a bs) :
    ReadsSpellings f S := by
  intro r a r'
  simp only [hf r a r', h]

theorem ok (a : α) : ReadsSpellings (fun r => .ok a r) fun b bs => b = a ∧ bs = [] := by
  intro r b r'
  constructor
  · intro h
    cases h
    exact ⟨[], ⟨rfl, rfl⟩, List.nil_prefix, rfl⟩
  · rintro ⟨_, ⟨rfl, rfl⟩, -, rfl⟩
    rfl

/-- Reading on spells one value after the other. -/
theorem bind {g : α → BitReader → Read β} {S : α → β → List Bit → Prop} (hf : ReadsSpellings f R)
    (hg : ∀ a, ReadsSpellings (g a) (S a)) :
    ReadsSpellings (fun r => (f r).bind g) fun b bs => ∃ a as cs, R a as ∧ S a b cs ∧ bs = as ++ cs := by
  intro r b r'
  rw [Read.bind_eq_ok]
  constructor
  · rintro ⟨a, r₁, ha, hb⟩
    obtain ⟨as, has, ⟨rest, hrest⟩, rfl⟩ := (hf _ _ _).1 ha
    obtain ⟨cs, hcs, hnext, rfl⟩ := (hg a _ _ _).1 hb
    rw [BitReader.advance_bits, ← hrest, List.drop_left] at hnext
    refine ⟨as ++ cs, ⟨a, as, cs, has, hcs, rfl⟩, ?_, ?_⟩
    · rw [← hrest]
      exact (List.prefix_append_right_inj as).2 hnext
    · rw [List.length_append, BitReader.advance_add]
  · rintro ⟨_, ⟨a, as, cs, has, hcs, rfl⟩, hnext, rfl⟩
    obtain ⟨rest, hrest⟩ := (List.prefix_append as cs).trans hnext
    refine ⟨a, r.advance as.length, (hf _ _ _).2 ⟨as, has, ⟨rest, hrest⟩, rfl⟩, (hg a _ _ _).2 ⟨cs, hcs, ?_, ?_⟩⟩
    · rw [BitReader.advance_bits, ← hrest, List.drop_left]
      rw [← hrest] at hnext
      exact (List.prefix_append_right_inj as).1 hnext
    · rw [List.length_append, BitReader.advance_add]

/-- Naming the value read changes no bits. -/
theorem map (hf : ReadsSpellings f R) (k : α → β) :
    ReadsSpellings (fun r => (f r).bind fun a r => .ok (k a) r) fun b bs => ∃ a, R a bs ∧ b = k a :=
  (hf.bind fun a => ok (k a)).congr fun b bs => by simp

theorem nextBit : ReadsSpellings BitReader.nextBit fun b bs => bs = [b] := by
  intro r b r'
  constructor
  · intro h
    rcases r.nextBit_cases with ⟨b', rest, hbits, hok⟩ | ⟨-, hbad⟩
    · rw [hok] at h
      cases h
      exact ⟨[b], rfl, ⟨rest, hbits.symm⟩, rfl⟩
    · rw [hbad] at h
      cases h
  · rintro ⟨_, rfl, ⟨rest, hbits⟩, rfl⟩
    exact (BitReader.nextBit_cons hbits.symm).1

/-- `NextBits(n)` reads the raw fields of `n` bits (R41, R80). -/
theorem nextBits (n : Nat) : ReadsSpellings (BitReader.nextBits n) fun v bs => v < 2 ^ n ∧ bs = rawBits n v := by
  induction n with
  | zero => exact (ok 0).congr fun v bs => by simp [rawBits]
  | succ n ih =>
    refine (nextBit.bind fun b => ih.map fun w => b.toNat + 2 * w).congr fun v bs => ?_
    constructor
    · rintro ⟨b, _, _, rfl, ⟨w, ⟨hw, rfl⟩, rfl⟩, rfl⟩
      have hb := b.toNat_le
      exact ⟨by rw [Nat.pow_succ]; omega, (rawBits_succ n b w).symm⟩
    · rintro ⟨hv, rfl⟩
      have hsplit : v = (v.testBit 0).toNat + 2 * (v / 2) := by
        rw [Nat.toNat_testBit]
        omega
      refine ⟨v.testBit 0, _, _, rfl, ⟨v / 2, ⟨by rw [Nat.pow_succ] at hv; omega, rfl⟩, hsplit⟩, ?_⟩
      conv_lhs => rw [hsplit, rawBits_succ]
      rfl

/-- `HuffDecode` reads the codes of a table that is not over-subscribed (R84, R86). -/
theorem huffDecode (table : TableId) {lens : List Nat} (hlens : ∀ l ∈ lens, l < 16) (hk : Huffman.kraft lens ≠ .over) :
    ReadsSpellings (huffDecode table lens) fun s bs =>
      (s < lens.length ∧ lens.getD s 0 ≠ 0) ∧ bs = codeBits lens s := by
  intro r s r'
  rw [huffDecode_eq_ok_iff hlens hk]
  constructor
  · rintro ⟨hs, hnext, rfl⟩
    exact ⟨_, ⟨hs, rfl⟩, hnext, by rw [codeBits_length]⟩
  · rintro ⟨_, ⟨hs, rfl⟩, hnext, rfl⟩
    exact ⟨hs, hnext, by rw [codeBits_length]⟩

/-- A code with extra bits after it, of a table in which every symbol has a code, spells every symbol and every value of
the extra bits (R70, R71). -/
theorem codeWithExtra {n : Nat} [NeZero n] (table : TableId) {lens : List Nat} (hlens : ∀ l ∈ lens, l < 16)
    (hk : Huffman.kraft lens ≠ .over) (hlen : lens.length = n) (hcoded : ∀ s : Fin n, lens.getD s.val 0 ≠ 0)
    (extra : Fin n → Nat) :
    ReadsSpellings (fun r => (Sys2Proof.huffDecode table lens r).bind fun s r =>
        (BitReader.nextBits (extra (Fin.ofNat n s)) r).bind fun x r => .ok (Fin.ofNat n s, x) r)
      fun p bs => p.2 < 2 ^ extra p.1 ∧ bs = codeBits lens p.1.val ++ rawBits (extra p.1) p.2 := by
  refine ((huffDecode table hlens hk).bind fun s =>
    (nextBits (extra (Fin.ofNat n s))).map fun x => (Fin.ofNat n s, x)).congr fun p bs => ?_
  constructor
  · rintro ⟨s, _, _, ⟨⟨hs, -⟩, rfl⟩, ⟨x, ⟨hx, rfl⟩, rfl⟩, rfl⟩
    have hval : (Fin.ofNat n s).val = s := Nat.mod_eq_of_lt (hlen ▸ hs)
    exact ⟨hx, by rw [hval]⟩
  · rintro ⟨hx, rfl⟩
    have hsym : Fin.ofNat n p.1.val = p.1 := Fin.ofNat_val_eq_self p.1
    exact ⟨p.1.val, _, _, ⟨⟨hlen.symm ▸ p.1.isLt, hcoded p.1⟩, rfl⟩,
      ⟨p.2, by rw [hsym]; exact ⟨hx, rfl⟩, by rw [hsym]⟩, rfl⟩

/-- A length code and its extra bits (R72, R116). -/
theorem decodeLen : ReadsSpellings decodeLen fun p bs =>
    p.2 < 2 ^ lenExtra p.1 ∧ bs = codeBits lenLens p.1.val ++ rawBits (lenExtra p.1) p.2 :=
  codeWithExtra .length lenLens_lt (by decide) (by decide) (by decide) lenExtra

/-- A distance code and its extra bits (R73, R118). -/
theorem decodeDist (e : Nat) : ReadsSpellings (decodeDist e) fun p bs =>
    p.2 < 2 ^ e ∧ bs = codeBits distLens p.1.val ++ rawBits e p.2 :=
  codeWithExtra .distance distLens_lt (by decide) (by decide) (by decide) fun _ => e

/-- A literal code spells every byte that has a code (R74, R114). -/
theorem decodeLit {lens : List Nat} (hlens : literalTableWf lens = true) : ReadsSpellings (decodeLit lens) fun v bs =>
    lens.getD v.toNat 0 ≠ 0 ∧ bs = codeBits lens v.toNat := by
  obtain ⟨hlen, hlt, hk⟩ := literalTableWf_iff.1 hlens
  refine ((huffDecode .literal hlt hk).map fun c => BitVec.ofNat 8 c).congr fun v bs => ?_
  constructor
  · rintro ⟨c, ⟨⟨hc, hcode⟩, rfl⟩, rfl⟩
    rw [BitVec.toNat_ofNat, Nat.mod_eq_of_lt (by omega)]
    exact ⟨hcode, rfl⟩
  · rintro ⟨hcode, rfl⟩
    exact ⟨v.toNat, ⟨⟨by have := v.isLt; omega, hcode⟩, rfl⟩, by simp⟩

end ReadsSpellings

/-! ## The encoder's spellings at a context -/

@[simp] theorem encodeOp_length (c : Ctx) (op : Op) : (encodeOp c op).length = opWidth c op := by
  cases op with
  | endOfStream => exact (by decide : (encodeOp .header .endOfStream).length = 16)
  | matchRef => simp [encodeOp, opWidth]; omega
  | hdr | littabFixed | ltp | litRaw | litCoded | len | dist | lit =>
    simp [encodeOp, opWidth, Nat.add_comm]

/-- The operations that can stand where a token is next (R66 to R69, R112). -/
theorem opFits_token_cases {lits : Option (List Nat)} {dict : Nat} {op : Op}
    (h : opFits (.token lits dict) op = true) :
    (∃ v, op = .litRaw v ∧ lits = none) ∨
    (∃ lens v, op = .litCoded v ∧ lits = some lens ∧ lens.getD v.toNat 0 ≠ 0) ∨
    (∃ s x t y, op = .matchRef s x t y) ∨ op = .endOfStream := by
  cases op with
  | litRaw v =>
    cases lits with
    | none => exact .inl ⟨v, rfl, rfl⟩
    | some lens => cases h
  | litCoded v =>
    cases lits with
    | none => cases h
    | some lens => exact .inr (.inl ⟨lens, v, rfl, rfl, bne_iff_ne.1 h⟩)
  | matchRef s x t y => exact .inr (.inr (.inl ⟨s, x, t, y, rfl⟩))
  | endOfStream => exact .inr (.inr (.inr rfl))
  | hdr | littabFixed | ltp | len | dist | lit => cases lits <;> cases h

/-- The spelling of an operation that can stand at a context (R57, R59). -/
def OpSpelling (c : Ctx) (op : Op) (bs : List Bit) : Prop := opFits c op = true ∧ bs = encodeOp c op

theorem opFits_header {op : Op} : opFits .header op = true ↔ ∃ L D, op = .hdr L D := by
  refine ⟨fun h => ?_, by rintro ⟨L, D, rfl⟩; rfl⟩
  cases op with
  | hdr L D => exact ⟨L, D, rfl⟩
  | _ => cases h

theorem opFits_fixedTable {op : Op} : opFits .fixedTable op = true ↔ op = .littabFixed := by
  refine ⟨fun h => ?_, by rintro rfl; rfl⟩
  cases op with
  | littabFixed => rfl
  | _ => cases h

theorem opFits_tableUnit {op : Op} : opFits .tableUnit op = true ↔ ∃ l r, op = .ltp l r := by
  refine ⟨fun h => ?_, by rintro ⟨l, r, rfl⟩; rfl⟩
  cases op with
  | ltp l r => exact ⟨l, r, rfl⟩
  | _ => cases h

theorem opFits_litCode {lens : List Nat} {op : Op} :
    opFits (.litCode lens) op = true ↔ ∃ v, op = .lit v ∧ lens.getD v.toNat 0 ≠ 0 := by
  refine ⟨fun h => ?_, by rintro ⟨v, rfl, hv⟩; exact bne_iff_ne.2 hv⟩
  cases op with
  | lit v => exact ⟨v, rfl, bne_iff_ne.1 h⟩
  | _ => cases h

theorem opFits_lenCode {op : Op} : opFits .lenCode op = true ↔ ∃ s x, op = .len s x ∧ x < 2 ^ lenExtra s := by
  refine ⟨fun h => ?_, by rintro ⟨s, x, rfl, hx⟩; exact decide_eq_true hx⟩
  cases op with
  | len s x => exact ⟨s, x, rfl, of_decide_eq_true h⟩
  | _ => cases h

theorem opFits_distCode {length dict : Nat} {op : Op} :
    opFits (.distCode length dict) op = true ↔ ∃ t y, op = .dist t y ∧ y < 2 ^ distExtra length dict := by
  refine ⟨fun h => ?_, by rintro ⟨t, y, rfl, hy⟩; exact decide_eq_true hy⟩
  cases op with
  | dist t y => exact ⟨t, y, rfl, of_decide_eq_true h⟩
  | _ => cases h

/-- The length value 519 has one spelling, which is the terminator's (R69, R117). -/
theorem matchLength_eq_endLength_iff {s : Fin 16} {x : Nat} (hx : x < 2 ^ lenExtra s) :
    matchLength s x = endLength ↔ s = 15 ∧ x = 255 := by
  constructor
  · intro h
    obtain rfl := eq_of_matchLength_eq_endLength hx h
    have hbase : lenBase 15 = 264 := rfl
    simp only [matchLength, endLength, hbase] at h
    exact ⟨rfl, by omega⟩
  · rintro ⟨rfl, rfl⟩
    rfl

/-- What follows a match's length code: nothing at the terminator's length, a distance code at any other (R117,
R118). -/
def AfterLength (dict : Nat) (p : Fin 16 × Nat) (op : Op) (bs : List Bit) : Prop :=
  (matchLength p.1 p.2 = endLength ∧ op = .endOfStream ∧ bs = []) ∨
  (matchLength p.1 p.2 ≠ endLength ∧ ∃ q : Fin 64 × Nat,
    (q.2 < 2 ^ distExtra (matchLength p.1 p.2) dict ∧
      bs = codeBits distLens q.1.val ++ rawBits (distExtra (matchLength p.1 p.2) dict) q.2) ∧
    op = .matchRef p.1 p.2 q.1 q.2)

theorem ofNat_toNat_byte (b : Byte) : BitVec.ofNat 8 b.toNat = b := by simp

theorem toNat_ofNat_byte {v : Nat} (h : v < 2 ^ 8) : (BitVec.ofNat 8 v).toNat = v := by
  rw [BitVec.toNat_ofNat, Nat.mod_eq_of_lt h]

/-- A raw field as two raw fields, the low bits first (R57). -/
theorem rawBits_add (m n v : Nat) : rawBits (m + n) v = rawBits m (v % 2 ^ m) ++ rawBits n (v / 2 ^ m) := by
  rw [rawBits, List.range_add, List.map_append, List.map_map]
  refine congrArg₂ _ (List.map_congr_left fun i hi => ?_) (List.map_congr_left fun i _ => ?_)
  · rw [Nat.testBit_mod_two_pow, decide_eq_true (List.mem_range.1 hi), Bool.true_and]
  · rw [Nat.testBit_div_two_pow, Function.comp_apply, Nat.add_comm]

namespace ReadsSpellings

theorem afterLength (dict : Nat) (p : Fin 16 × Nat) : ReadsSpellings
    (fun r => if matchLength p.1 p.2 = endLength then .ok .endOfStream r
      else (Sys2Proof.decodeDist (distExtra (matchLength p.1 p.2) dict) r).bind fun q r =>
        .ok (.matchRef p.1 p.2 q.1 q.2) r) (AfterLength dict p) := by
  unfold AfterLength
  split
  case isTrue hend => exact (ok _).congr fun op bs => by simp [hend]
  case isFalse hend => exact ((decodeDist _).map _).congr fun op bs => by simp [hend]

/-- After the control bit 1 come matches and the terminator (R115 to R120, R123). -/
theorem decodeMatch (lits : Option (List Nat)) (dict : Nat) :
    ReadsSpellings (decodeMatch dict) fun op bs => OpSpelling (.token lits dict) op (true :: bs) := by
  refine (decodeLen.bind (afterLength dict)).congr fun op bs => ?_
  constructor
  · rintro ⟨⟨s, x⟩, _, cs, ⟨hx, rfl⟩, ⟨hend, rfl, rfl⟩ | ⟨hend, ⟨t, y⟩, ⟨hy, rfl⟩, rfl⟩, rfl⟩
    · obtain ⟨rfl, rfl⟩ := (matchLength_eq_endLength_iff hx).1 hend
      exact ⟨by cases lits <;> rfl, by rw [List.append_nil]; rfl⟩
    · exact ⟨opFits_matchRef.2 ⟨hx, hend, hy⟩, by simp [encodeOp]⟩
  · rintro ⟨hfits, hbits⟩
    rcases opFits_token_cases hfits with ⟨v, rfl, -⟩ | ⟨lens, v, rfl, -⟩ | ⟨s, x, t, y, rfl⟩ | rfl
    · cases hbits
    · cases hbits
    · obtain ⟨hx, hend, hy⟩ := opFits_matchRef.1 hfits
      refine ⟨(s, x), _, _, ⟨hx, rfl⟩, .inr ⟨hend, (t, y), ⟨hy, rfl⟩, rfl⟩, ?_⟩
      rw [← List.append_assoc]
      exact List.tail_eq_of_cons_eq hbits
    · refine ⟨(15, 255), _, [], ⟨by decide, rfl⟩, .inl ⟨rfl, rfl, rfl⟩, ?_⟩
      rw [List.append_nil]
      exact List.tail_eq_of_cons_eq hbits

/-- After the control bit 0 come the literals of the stream's kind (R113, R114). -/
theorem decodeLiteral {lits : Option (List Nat)} {dict : Nat} (hc : (Ctx.token lits dict).wf = true) :
    ReadsSpellings (fun r => match lits with
      | none => (BitReader.nextBits 8 r).bind fun v r => .ok (.litRaw (BitVec.ofNat 8 v)) r
      | some lens => (Sys2Proof.decodeLit lens r).bind fun v r => .ok (.litCoded v) r)
      fun op bs => OpSpelling (.token lits dict) op (false :: bs) := by
  cases lits with
  | none =>
    refine ((nextBits 8).map fun v => Op.litRaw (BitVec.ofNat 8 v)).congr fun op bs => ?_
    constructor
    · rintro ⟨v, ⟨hv, rfl⟩, rfl⟩
      exact ⟨rfl, by rw [encodeOp, toNat_ofNat_byte hv]⟩
    · rintro ⟨hfits, hbits⟩
      rcases opFits_token_cases hfits with ⟨v, rfl, -⟩ | ⟨lens, v, rfl, ⟨⟩, -⟩ | ⟨s, x, t, y, rfl⟩ | rfl
      · exact ⟨v.toNat, ⟨v.isLt, List.tail_eq_of_cons_eq hbits⟩, by rw [ofNat_toNat_byte]⟩
      · cases hbits
      · cases hbits
  | some lens =>
    have hlens : literalTableWf lens = true := by
      simp only [Ctx.wf, Bool.and_eq_true] at hc
      exact hc.2
    refine ((decodeLit hlens).map Op.litCoded).congr fun op bs => ?_
    constructor
    · rintro ⟨v, ⟨hv, rfl⟩, rfl⟩
      exact ⟨bne_iff_ne.2 hv, rfl⟩
    · rintro ⟨hfits, hbits⟩
      rcases opFits_token_cases hfits with ⟨v, rfl, ⟨⟩⟩ | ⟨_, v, rfl, ⟨⟩, hv⟩ | ⟨s, x, t, y, rfl⟩ | rfl
      · exact ⟨v, ⟨hv, List.tail_eq_of_cons_eq hbits⟩, rfl⟩
      · cases hbits
      · cases hbits

/-- In every context the decoder reads exactly the spellings of the operations that can stand there (R57 to R69). -/
theorem decodeOp {c : Ctx} (hc : c.wf = true) : ReadsSpellings (decodeOp c) (OpSpelling c) := by
  cases c with
  | header =>
    refine ((nextBits 8).bind fun L => (nextBits 8).map fun D => Op.hdr (BitVec.ofNat 8 L) (BitVec.ofNat 8 D)).congr
      fun op bs => ?_
    rw [OpSpelling, opFits_header]
    constructor
    · rintro ⟨L, _, _, ⟨hL, rfl⟩, ⟨D, ⟨hD, rfl⟩, rfl⟩, rfl⟩
      exact ⟨⟨_, _, rfl⟩, by rw [encodeOp, toNat_ofNat_byte hL, toNat_ofNat_byte hD]⟩
    · rintro ⟨⟨L, D, rfl⟩, rfl⟩
      exact ⟨L.toNat, _, _, ⟨L.isLt, rfl⟩, ⟨D.toNat, ⟨D.isLt, rfl⟩, by rw [ofNat_toNat_byte, ofNat_toNat_byte]⟩, rfl⟩
  | fixedTable =>
    refine (ok _).congr fun op bs => ?_
    rw [OpSpelling, opFits_fixedTable]
    exact and_congr_right fun h => by rw [h, encodeOp]
  | tableUnit =>
    refine ((nextBits 8).map fun v => Op.ltp (BitVec.ofNat 4 (v % 16)) (BitVec.ofNat 4 (v / 16))).congr fun op bs => ?_
    rw [OpSpelling, opFits_tableUnit]
    constructor
    · rintro ⟨v, ⟨hv, rfl⟩, rfl⟩
      refine ⟨⟨_, _, rfl⟩, ?_⟩
      rw [encodeOp, BitVec.toNat_ofNat, BitVec.toNat_ofNat, Nat.mod_eq_of_lt (by omega : v % 16 < 2 ^ 4),
        Nat.mod_eq_of_lt (by omega : v / 16 < 2 ^ 4)]
      exact rawBits_add 4 4 v
    · rintro ⟨⟨l, r, rfl⟩, rfl⟩
      have hl := l.isLt
      have hr := r.isLt
      have hlow : (l.toNat + 16 * r.toNat) % 16 = l.toNat := by omega
      have hhigh : (l.toNat + 16 * r.toNat) / 16 = r.toNat := by omega
      refine ⟨l.toNat + 16 * r.toNat, ⟨by omega, ?_⟩, ?_⟩
      · rw [encodeOp, rawBits_add 4 4]
        exact congrArg₂ (fun low high => rawBits 4 low ++ rawBits 4 high) hlow.symm hhigh.symm
      · rw [hlow, hhigh]; simp
  | litCode lens =>
    refine ((decodeLit hc).map Op.lit).congr fun op bs => ?_
    rw [OpSpelling, opFits_litCode]
    constructor
    · rintro ⟨v, ⟨hv, rfl⟩, rfl⟩
      exact ⟨⟨v, rfl, hv⟩, rfl⟩
    · rintro ⟨⟨v, rfl, hv⟩, rfl⟩
      exact ⟨v, ⟨hv, rfl⟩, rfl⟩
  | lenCode =>
    refine (decodeLen.map fun p => Op.len p.1 p.2).congr fun op bs => ?_
    rw [OpSpelling, opFits_lenCode]
    constructor
    · rintro ⟨⟨s, x⟩, ⟨hx, rfl⟩, rfl⟩
      exact ⟨⟨s, x, rfl, hx⟩, rfl⟩
    · rintro ⟨⟨s, x, rfl, hx⟩, rfl⟩
      exact ⟨(s, x), ⟨hx, rfl⟩, rfl⟩
  | distCode length dict =>
    unfold Sys2Proof.decodeOp
    refine ((decodeDist _).map fun p => Op.dist p.1 p.2).congr fun op bs => ?_
    rw [OpSpelling, opFits_distCode]
    constructor
    · rintro ⟨⟨t, y⟩, ⟨hy, rfl⟩, rfl⟩
      exact ⟨⟨t, y, rfl, hy⟩, rfl⟩
    · rintro ⟨⟨t, y, rfl, hy⟩, rfl⟩
      exact ⟨(t, y), ⟨hy, rfl⟩, rfl⟩
  | token lits dict =>
    refine (nextBit.bind (S := fun b op cs => OpSpelling (.token lits dict) op (b :: cs)) fun b => ?_).congr
      fun op bs => ?_
    · cases b with
      | true => exact decodeMatch lits dict
      | false => exact decodeLiteral hc
    · constructor
      · rintro ⟨b, _, cs, rfl, hop, rfl⟩
        exact hop
      · rintro ⟨hfits, rfl⟩
        obtain ⟨b, cs, hbits⟩ : ∃ b cs, encodeOp (.token lits dict) op = b :: cs := by
          rcases opFits_token_cases hfits with ⟨v, rfl, -⟩ | ⟨lens, v, rfl, -⟩ | ⟨s, x, t, y, rfl⟩ | rfl <;>
            exact ⟨_, _, rfl⟩
        exact ⟨b, _, cs, rfl, ⟨hfits, hbits.symm⟩, hbits⟩

end ReadsSpellings

/-! ## The round trips -/

/-- The decoder reads exactly the encodings of the instructions that are well formed at the context. -/
theorem readsSpellings_decode {c : Ctx} (hc : c.wf = true) :
    ReadsSpellings (decode c) fun i bs => i.wf c = true ∧ bs = encode c i := by
  refine ((ReadsSpellings.decodeOp hc).map Instr.ofOp).congr fun i bs => ?_
  rw [Instr.wf, Bool.and_eq_true, Instr.canonical, beq_iff_eq]
  constructor
  · rintro ⟨op, ⟨hfits, rfl⟩, rfl⟩
    rw [encode, op_ofOp hfits]
    exact ⟨⟨rfl, hfits⟩, rfl⟩
  · rintro ⟨⟨hcanonical, hfits⟩, rfl⟩
    exact ⟨i.op, ⟨hfits, rfl⟩, hcanonical.symm⟩

/-- Settles O10: the decoder answers whenever an encoding is next, with the instruction encoded. -/
theorem decodeInvertsEncode : Obligations.DecodeInvertsEncode := by
  intro c i r rest hc hi hbits
  refine ⟨(readsSpellings_decode hc r i _).2 ⟨_, ⟨hi, rfl⟩, ⟨rest, hbits.symm⟩, rfl⟩, ?_⟩
  rw [BitReader.advance_bits, hbits, List.drop_left]

/-- Settles O11: the decoder answers only when the encoding of its answer is next, and reads no further. -/
theorem decodedWordIsItsEncoding : Obligations.DecodedWordIsItsEncoding := by
  intro c r r' i hc h
  obtain ⟨_, ⟨hi, rfl⟩, ⟨rest, hbits⟩, rfl⟩ := (readsSpellings_decode hc r i r').1 h
  have hlen : (encode c i).length = opWidth c i.op := encodeOp_length c i.op
  refine ⟨hi, ?_, by rw [hlen], hlen⟩
  rw [BitReader.advance_bits, ← hbits, List.drop_left]

end Sys2Proof

/-! SUPPORT. The operand arithmetic's ranges (R70, R71), the widths of tokens (R58, R81, R121), and words of the
spec. -/

namespace Sys2Proof

/-! ## Match lengths (R70, R92) -/

/-- Each symbol's range of lengths but the last ends where another symbol's begins (R92). -/
theorem lenBase_next : ∀ s : Fin 16, s ≠ 15 → ∃ s', lenBase s' = lenBase s + 2 ^ lenExtra s := by decide

/-- The symbols' ranges of lengths do not meet (R92). -/
theorem lenBase_disjoint : ∀ s s' : Fin 16, s ≠ s' →
    lenBase s + 2 ^ lenExtra s ≤ lenBase s' ∨ lenBase s' + 2 ^ lenExtra s' ≤ lenBase s := by decide

theorem exists_matchLength_eq {n : Nat} (hlo : 2 ≤ n) (hhi : n ≤ endLength) :
    ∃ s x, x < 2 ^ lenExtra s ∧ matchLength s x = n := by
  induction n, hlo using Nat.le_induction with
  | base => exact ⟨1, 0, by decide, rfl⟩
  | succ n hlo ih =>
    obtain ⟨s, x, hx, rfl⟩ := ih (Nat.le_of_succ_le hhi)
    by_cases hnext : x + 1 < 2 ^ lenExtra s
    · exact ⟨s, x + 1, hnext, rfl⟩
    · have hne : s ≠ 15 := by
        rintro rfl
        have hbase : lenBase 15 = 264 := rfl
        have hextra : lenExtra 15 = 8 := rfl
        simp only [matchLength, endLength, hbase, hextra] at hhi hnext
        omega
      obtain ⟨s', hs'⟩ := lenBase_next s hne
      refine ⟨s', 0, Nat.two_pow_pos _, ?_⟩
      simp only [matchLength, hs']
      omega

theorem matchLength_inj {s s' : Fin 16} {x x' : Nat} (hx : x < 2 ^ lenExtra s) (hx' : x' < 2 ^ lenExtra s')
    (h : matchLength s x = matchLength s' x') : s = s' ∧ x = x' := by
  simp only [matchLength] at h
  have hs : s = s' := by
    by_contra hne
    have hapart := lenBase_disjoint s s' hne
    omega
  subst hs
  exact ⟨rfl, by omega⟩

/-- Settles O7: the symbols' ranges of lengths follow one another from 2 to 519 without a gap and without meeting. -/
theorem lengthHasOneSpelling : Obligations.LengthHasOneSpelling :=
  ⟨fun s x hx => ⟨rfl, two_le_matchLength s x, matchLength_le_endLength hx⟩,
    fun _ hlo hhi => exists_matchLength_eq hlo hhi, fun _ _ _ _ hx hx' h => matchLength_inj hx hx' h⟩

/-! ## Match distances (R71) -/

/-- A distance less one is its symbol and its extra bits side by side (R71). -/
theorem matchDistance_eq_iff {t : Fin 64} {e y d : Nat} (hy : y < 2 ^ e) :
    matchDistance t e y = d + 1 ↔ t.val = d / 2 ^ e ∧ y = d % 2 ^ e := by
  rw [matchDistance, Nat.shiftLeft_eq, Nat.add_right_cancel_iff, eq_comm (a := t.val), eq_comm (a := y),
    Nat.div_mod_unique (Nat.two_pow_pos e), and_iff_left hy, Nat.add_comm, Nat.mul_comm]

/-- Settles O8: a distance less one, divided by `2 ^ e`, has the symbol as quotient and the extra bits as remainder. -/
theorem distanceHasOneSpelling : Obligations.DistanceHasOneSpelling := by
  refine ⟨fun _ _ => rfl, fun t e y hy => ⟨rfl, Nat.le_add_left .., ?_⟩, fun e d hlo hhi => ?_, ?_⟩
  · rw [Nat.shiftLeft_eq]
    exact Machine.matchDistance_le hy
  · obtain ⟨d, rfl⟩ := Nat.exists_eq_add_of_le' hlo
    rw [Nat.shiftLeft_eq] at hhi
    have hsym : d / 2 ^ e < 64 := Nat.div_lt_of_lt_mul (by omega)
    have hextra : d % 2 ^ e < 2 ^ e := Nat.mod_lt _ (Nat.two_pow_pos e)
    exact ⟨⟨d / 2 ^ e, hsym⟩, d % 2 ^ e, hextra, (matchDistance_eq_iff hextra).2 ⟨rfl, rfl⟩⟩
  · intro t t' e y y' hy hy' h
    obtain ⟨ht, hrest⟩ := (matchDistance_eq_iff hy).1 h
    obtain ⟨ht', hrest'⟩ := (matchDistance_eq_iff hy').1 rfl
    exact ⟨Fin.ext (ht.trans ht'.symm), hrest.trans hrest'.symm⟩

/-! ## Widths of tokens (R58, R81, R121) -/

/-- A length symbol's code and extra bits; only symbol 1 spells the length 2 (R72, R92). -/
theorem lenWidth_range : ∀ s : Fin 16,
    2 ≤ lenLens.getD s.val 0 + lenExtra s ∧ lenLens.getD s.val 0 + lenExtra s ≤ 15 ∧
      (lenBase s = 2 → lenLens.getD s.val 0 + lenExtra s = 3) := by decide

theorem distLens_range : ∀ t : Fin 64, 2 ≤ distLens.getD t.val 0 ∧ distLens.getD t.val 0 ≤ 8 := by decide

theorem litLensFixed_length : litLensFixed.length = 256 := by decide +kernel

theorem litLensFixed_range : ∀ l ∈ litLensFixed, l ≠ 0 → 4 ≤ l ∧ l ≤ 13 := by decide +kernel

/-- A match is 8 bits at least, with the shortest length, and 30 at most (R121). -/
theorem opWidth_matchRef_range {lits : Option (List Nat)} {dict : Nat} (hlo : 4 ≤ dict) (hhi : dict ≤ 6) (s : Fin 16)
    (x : Nat) (t : Fin 64) (y : Nat) :
    8 ≤ opWidth (.token lits dict) (.matchRef s x t y) ∧ opWidth (.token lits dict) (.matchRef s x t y) ≤ 30 := by
  obtain ⟨hlen, hlen', hshort⟩ := lenWidth_range s
  obtain ⟨hdist, hdist'⟩ := distLens_range t
  have hbase := (lenBase_range s).1
  simp only [opWidth, distExtra]
  split
  case isTrue htwo =>
    rw [matchLength] at htwo
    have hthree := hshort (by omega)
    omega
  case isFalse => omega

theorem Ctx.dict_of_wf_token {lits : Option (List Nat)} {dict : Nat} (h : (Ctx.token lits dict).wf = true) :
    4 ≤ dict ∧ dict ≤ 6 := by
  simp only [Ctx.wf, Bool.and_eq_true, decide_eq_true_eq] at h
  exact h.1

/-- Settles O12: a token's width is read off its operation and the code lengths of its symbols. -/
theorem tokenWidths : Obligations.TokenWidths := by
  intro lits dict i hc hi
  obtain ⟨hlo, hhi⟩ := Ctx.dict_of_wf_token hc
  rw [Instr.wf, Bool.and_eq_true] at hi
  have hfits := hi.2
  simp only [encode, encodeOp_length]
  refine ⟨?_, ?_, ?_, ?_, ?_⟩
  · rcases opFits_token_cases hfits with ⟨v, hop, -⟩ | ⟨lens, v, hop, rfl, hv⟩ | ⟨s, x, t, y, hop⟩ | hop <;> rw [hop]
    · exact (by decide : 2 ≤ 9)
    · simp only [opWidth, Ctx.lits]
      omega
    · have := opWidth_matchRef_range (lits := lits) hlo hhi s x t y
      omega
    · exact (by decide : 2 ≤ 16)
  · rintro s x t y rfl
    exact opWidth_matchRef_range hlo hhi s x t y
  · rintro v rfl rfl
    have hcode : litLensFixed.getD v.toNat 0 ≠ 0 := bne_iff_ne.1 hfits
    have hlt : v.toNat < litLensFixed.length := litLensFixed_length ▸ v.isLt
    have hrange := litLensFixed_range _ (Huffman.getD_mem hlt) hcode
    change 5 ≤ 1 + litLensFixed.getD v.toNat 0 ∧ 1 + litLensFixed.getD v.toNat 0 ≤ 14
    omega
  · rintro v rfl
    rfl
  · rintro rfl
    rfl

/-- Settles O9: the words are closed terms, decoded by evaluation. -/
theorem writtenOutWordsDecode : Obligations.WrittenOutWordsDecode := by
  unfold Obligations.WrittenOutWordsDecode
  decide +kernel

end Sys2Proof

/-! SUPPORT. Instructions run where the sequencer dispatches them: headers, table units, literals and the rows inside a
match. -/

namespace Sys2Proof.Machine

open Sys2Proof.Claims

/-! ## What the sequencer expects, by phase and field (R105, R112) -/

namespace State

variable {s : State}

theorem expects_header (hphase : s.phase = .header) (hfield : s.field = .none) : s.expects = .ctx .header := by
  simp [expects, hphase, hfield]

theorem expects_tableUnit (hphase : s.phase = .littab) (hfield : s.field = .unit) : s.expects = .ctx .tableUnit := by
  simp [expects, hphase, hfield]

theorem expects_codedToken (hphase : s.phase = .token) (hfield : s.field = .none) (hcoded : s.litCoded = true)
    {lens : List Nat} (hlens : s.litLens = some lens) : s.expects = .ctx (.token (some lens) s.dict.toNat) := by
  simp [expects, hphase, hfield, hcoded, withLits, hlens]

theorem expects_litCode (hphase : s.phase = .token) (hfield : s.field = .lit) {lens : List Nat}
    (hlens : s.litLens = some lens) : s.expects = .ctx (.litCode lens) := by
  simp [expects, hphase, hfield, withLits, hlens]

theorem expects_lenCode (hphase : s.phase = .token) (hfield : s.field = .len) : s.expects = .ctx .lenCode := by
  simp [expects, hphase, hfield]

theorem expects_distCode (hphase : s.phase = .token) {length : Nat} (hfield : s.field = .dist length) :
    s.expects = .ctx (.distCode length s.dict.toNat) := by
  simp [expects, hphase, hfield]

end State

/-- An instruction whose operation can stand at the state's context has the operation's effect past its bits (R105). -/
theorem exec_of_fits {i : Instr} {op : Op} {s : State} {c : Ctx} (hop : i.op = op) (hexp : s.expects = .ctx c)
    (hfits : opFits c op = true) : exec i s = opEffect op c (s.advance (opWidth c op)) := by
  rw [exec_eq_runOp, hop, runOp_eq_runWhen, runWhen_of_fits _ hexp hfits]

/-! ## Headers (R108) -/

theorem headerEffect_legal {L D : Byte} (h : headerLegal L D = true) (n : Nat) (s : State) :
    headerEffect L D (s.advance n) = { s with
      reader := s.reader.advance n
      litCoded := decide (L.toNat = 1)
      dict := BitVec.ofNat 3 D.toNat
      phase := if L.toNat = 1 then .littab else .token } := by
  have hflag : (L = 1) = (L.toNat = 1) := propext BitVec.toNat_inj.symm
  simp only [headerEffect, h, if_true, hflag, BitVec.ofNat_toNat]
  rfl

theorem headerEffect_illegal {L D : Byte} (h : headerLegal L D = false) (n : Nat) (s : State) :
    headerEffect L D (s.advance n) = { s with
      reader := s.reader.advance n
      err := .invalidHeader
      phase := .fault
      info := .header L D
      field := .none } := by
  simp only [headerEffect, h]
  rfl

/-- Settles O32: at the start of a stream a header row runs, and a legal header passes the check. -/
theorem legalHeaderRuns : Obligations.LegalHeaderRuns := by
  intro i L D s hop hphase hfield hL hlo hhi
  have hlegal : headerLegal L D = true := State.headerLegal_iff.2 ⟨hL, hlo, hhi⟩
  exact (exec_of_fits hop (State.expects_header hphase hfield) rfl).trans
    (congrArg Host.Outcome.next (headerEffect_legal hlegal 16 s))

/-- Settles O33: an illegal header fails the check, which comes after its 16 bits. -/
theorem illegalHeaderRaises : Obligations.IllegalHeaderRaises := by
  intro L D s hphase hfield hbytes
  have hillegal : headerLegal L D = false := by
    rw [← Bool.not_eq_true, State.headerLegal_iff]
    omega
  exact (exec_of_fits rfl (State.expects_header hphase hfield) rfl).trans
    (congrArg Host.Outcome.next (headerEffect_illegal hillegal 16 s))

/-! ## Units of a transmitted table (R111) -/

namespace State

/-- Assigning lengths changes `lit_len` and the count only (R111). -/
theorem assignLens_eq (l : BitVec 4) (n : Nat) (s : State) :
    s.assignLens l n = { s with litLen := (s.assignLens l n).litLen, ltN := s.ltN + n } := by
  induction n generalizing s with
  | zero => rfl
  | succ n ih => rw [assignLens, ih, Nat.add_assoc, Nat.add_comm 1]

/-- One length assigned below the table's end (R111). -/
theorem assignLens_succ (l : BitVec 4) {n : Nat} {s : State} (h : s.ltN < 256) :
    s.assignLens l (n + 1) =
      ({ s with litLen := s.litLen.write s.ltN l, ltN := s.ltN + 1 } : State).assignLens l n := by
  rw [assignLens, if_pos h]

/-- The next `n` symbols have length `l`, every other symbol what it had (R111). -/
theorem assignLens_read {l : BitVec 4} {n : Nat} {s : State} (h : s.ltN + n ≤ 256) (v : Nat) :
    (s.assignLens l n).litLen.read v = if s.ltN ≤ v ∧ v < s.ltN + n then some l else s.litLen.read v := by
  induction n generalizing s with
  | zero => exact (if_neg (by omega)).symm
  | succ n ih =>
    have hlt : s.ltN < 256 := by omega
    rw [assignLens_succ l hlt, ih (by dsimp only; omega)]
    dsimp only
    rw [Cells.read_write]
    by_cases hv : v = s.ltN
    · rw [if_neg (by omega), if_pos hv, if_pos (by omega)]
    · rw [if_neg hv]
      exact if_congr (by omega) rfl rfl

/-- A unit that does not overshoot adds `n` lengths `l` to those assigned so far (R111). -/
theorem assignLens_litLen {l : BitVec 4} {n : Nat} {s : State} (hcells : s.litLen.map Prod.fst = List.range s.ltN)
    (h : s.ltN + n ≤ 256) : ((s.assignLens l n).litLen.map fun c => c.2.toNat) =
      (s.litLen.map fun c => c.2.toNat) ++ List.replicate n l.toNat := by
  induction n generalizing s with
  | zero => simp [assignLens]
  | succ n ih =>
    have hpast : ∀ c ∈ s.litLen, c.1 < s.ltN := fun c hc => by
      have hmem := List.mem_map_of_mem (f := Prod.fst) hc
      rw [hcells] at hmem
      exact List.mem_range.1 hmem
    rw [assignLens_succ l (by omega), Cells.write_past hpast,
      ih (by simp [hcells, List.range_succ]) (by dsimp only; omega)]
    simp [List.replicate_succ]

theorem closeTable_overshot {s : State} (h : 256 < s.ltN) :
    s.closeTable = .next (s.raise .invalidLiteralTable (.assigned s.ltN)) :=
  (if_neg (Nat.lt_asymm h)).trans (if_pos h.ne')

theorem closeTable_full {s : State} {lens : List Nat} (h : s.ltN = 256) (hlens : s.litLens = some lens) :
    s.closeTable = .next (if Huffman.kraft lens = .over then s.raise .invalidLiteralTable .overSubscribed
      else { s with phase := .token, field := .none }) := by
  rw [closeTable, if_neg (by omega), if_neg (by omega), hlens, apply_ite Host.Outcome.next]

theorem assignLens_advance (l : BitVec 4) (m n : Nat) (s : State) :
    (s.advance n).assignLens l m = (s.assignLens l m).advance n := by
  induction m generalizing s with
  | zero => rfl
  | succ m ih => rw [assignLens, assignLens, ← ih]; rfl

theorem assignLens_advance_eq (l : BitVec 4) (m n : Nat) (s : State) : (s.advance n).assignLens l m =
    { s with reader := s.reader.advance n, litLen := (s.assignLens l m).litLen, ltN := s.ltN + m } := by
  rw [assignLens_eq, assignLens_advance]
  rfl

end State

/-- A unit of a transmitted table runs inside the table: 8 bits, its assignments, and the end of the loop body
(R111). -/
theorem exec_ltp (l r : BitVec 4) {s : State} (hphase : s.phase = .littab) (hfield : s.field = .unit) :
    exec (.ltp l r) s = ({ s with
      reader := s.reader.advance 8
      litLen := (s.assignLens l (r.toNat + 1)).litLen
      ltN := s.ltN + (r.toNat + 1) } : State).closeTable :=
  (exec_of_fits rfl (State.expects_tableUnit hphase hfield) rfl).trans
    (congrArg State.closeTable (State.assignLens_advance_eq l (r.toNat + 1) 8 s))

/-- Settles O35: a unit that ends below 256 assigned symbols ends with its assignments. -/
theorem tableUnitAssigns : Obligations.TableUnitAssigns := by
  intro l r s hphase hfield hshort
  exact ⟨_, (exec_ltp l r hphase hfield).trans (if_pos hshort), State.assignLens_read hshort.le⟩

/-- Settles O36: the lengths assigned fill the table, and the end of the loop checks the count and then the lengths. -/
theorem lastTableUnitCloses : Obligations.LastTableUnitCloses := by
  intro l r s hphase hfield _ hcells
  have hexec := exec_ltp l r hphase hfield
  -- The position plays no part in closing the table.
  generalize s.reader.advance 8 = reader at hexec ⊢
  refine ⟨fun hfull => ?_, fun hover => ⟨_, hexec.trans (State.closeTable_overshot hover)⟩⟩
  have hlens : ∀ t : State, t.litLen = (s.assignLens l (r.toNat + 1)).litLen → t.litLens =
      some ((s.litLen.map fun c => c.2.toNat) ++ List.replicate (r.toNat + 1) l.toNat) := by
    intro t ht
    rw [State.litLens_eq_some, ht, State.assignLens_litLen hcells hfull.le, ← hfull]
    exact ⟨State.assignLens_cells hcells hfull.le, rfl⟩
  rw [hfull] at hexec
  exact ⟨_, _, rfl, hlens _ rfl, hexec.trans (State.closeTable_full rfl (hlens _ rfl))⟩

/-! ## Literals (R98, R114) -/

/-- Settles O39: in a coded-literal stream the symbols with a code are the literals that fit. -/
theorem codedLiteralEmits : Obligations.CodedLiteralEmits := by
  intro c lens s hphase hfield hcoded hlens hcode
  exact exec_of_fits (op := .litCoded c) rfl (State.expects_codedToken hphase hfield hcoded hlens) (bne_iff_ne.2 hcode)

/-- Settles O43: inside a coded literal the symbols with a code are the rows that fit. -/
theorem literalCodeRowsEmit : Obligations.LiteralCodeRowsEmit := by
  intro i c lens s hop hphase hfield hlens hcode
  exact exec_of_fits hop (State.expects_litCode hphase hfield hlens) (bne_iff_ne.2 hcode)

/-! ## Length codes (R115 to R117) -/

/-- Settles O44: at a length code every row with its extra bits fits, and its length decides what comes next. -/
theorem lengthCodeRowsRun : Obligations.LengthCodeRowsRun := by
  intro i sym x s hop hphase hfield hx
  exact exec_of_fits hop (State.expects_lenCode hphase hfield) (decide_eq_true hx)

/-! ## Distance codes (R99, R118, R119) -/

namespace State

/-- A copy's first byte, and the rest of it as the copy on the output that already holds that byte (R99). -/
theorem copied_succ (out : List Byte) {distance : Nat} (n : Nat) (hlo : 1 ≤ distance) (hhi : distance ≤ out.length) :
    copied out distance (n + 1) = out.getD (out.length - distance) 0 ::
      copied (out ++ [out.getD (out.length - distance) 0]) distance n := by
  rw [copied, List.range_succ_eq_map, List.map_cons, List.map_map]
  refine congrArg₂ _ (by simp) (List.map_congr_left fun k _ => ?_)
  have hmod := Nat.mod_lt k hlo
  rw [Function.comp_apply, Nat.succ_eq_add_one, ← Nat.mod_add_mod, List.length_append, List.length_singleton]
  by_cases hwrap : k % distance + 1 = distance
  · rw [hwrap, Nat.mod_self, Nat.add_zero, List.getD_append_right _ _ _ _ (by omega)]
    have hfirst : out.length + 1 - distance + k % distance - out.length = 0 := by omega
    rw [hfirst]
    rfl
  · have hlast : out.length + 1 - distance + k % distance = out.length - distance + (k % distance + 1) := by omega
    rw [Nat.mod_eq_of_lt (by omega : k % distance + 1 < distance), hlast, List.getD_append _ _ _ _ (by omega)]

/-- A copy from inside the window emits the last `distance` bytes as a repeating pattern, and the window stays the
recent output (R99, R101). -/
theorem WindowHolds.copyBytes {s : State} (h : s.WindowHolds) {distance : Nat} (length : Nat) (hlo : 1 ≤ distance)
    (hproduced : distance ≤ s.produced) (hwindow : distance ≤ 4096) :
    ∃ u, s.copyBytes distance length = some u ∧ u.WindowHolds ∧
      u = { s with out := s.out ++ copied s.out distance length, win := u.win } := by
  induction length generalizing s with
  | zero => exact ⟨s, rfl, h, by simp [copied]⟩
  | succ n ih =>
    have hlen : distance ≤ s.out.length := hproduced
    have hread : s.memRead ((s.produced - distance) % Config.winPhys) =
        some (s.out.getD (s.out.length - distance) 0) := by
      rw [List.getD_eq_getElem _ _ (by omega)]
      exact h.recent (s.out.length - distance) (by omega) (by omega)
    obtain ⟨u, hcopy, hu, heq⟩ := ih (h.emit (s.out.getD (s.out.length - distance) 0))
      (by rw [emit_produced]; omega)
    refine ⟨u, by rw [State.copyBytes, hread]; exact hcopy, hu, ?_⟩
    rw [copied_succ s.out n hlo hlen, List.append_cons]
    exact heq

/-- A match whose distance reaches into the window goes ahead (R99, R100). -/
theorem WindowHolds.copyBack {s : State} (h : s.WindowHolds) {distance : Nat} (length : Nat) (hlo : 1 ≤ distance)
    (hproduced : distance ≤ s.produced) (hwindow : distance ≤ 4096) :
    ∃ u, s.copyBack distance length = .next u ∧ u.WindowHolds ∧
      u = { s with out := s.out ++ copied s.out distance length, win := u.win } := by
  obtain ⟨u, hcopy, hu, heq⟩ := h.copyBytes length hlo hproduced hwindow
  exact ⟨u, by rw [State.copyBack, if_neg (Nat.not_lt.2 hproduced), hcopy], hu, heq⟩

end State

theorem distanceAt_range {s : State} (hdict : s.dict.toNat ≤ 6) {length : Nat} {t : Fin 64} {y : Nat}
    (hy : y < 2 ^ distExtra length s.dict.toNat) : 1 ≤ distanceAt s length t y ∧ distanceAt s length t y ≤ 4096 :=
  ⟨Nat.le_add_left .., (matchDistance_le hy).trans
    (Nat.mul_le_mul_left 64 (Nat.pow_le_pow_right (by decide) (distExtra_le hdict)))⟩

/-- A distance code runs inside a match: its bits, the end of the token, and the copy (R118, R119). -/
theorem exec_dist {i : Instr} {t : Fin 64} {y length : Nat} {s : State} (hop : i.op = .dist t y)
    (hphase : s.phase = .token) (hfield : s.field = .dist length) (hy : y < 2 ^ distExtra length s.dict.toNat) :
    exec i s = ({ s with
      reader := s.reader.advance (distLens.getD t.val 0 + distExtra length s.dict.toNat)
      field := .none } : State).copyBack (distanceAt s length t y) length :=
  exec_of_fits hop (State.expects_distCode hphase hfield) (decide_eq_true hy)

/-- Settles O45: the copy's distance is within the window, and the check against the output decides (R100). -/
theorem distanceCodeRowsRun : Obligations.DistanceCodeRowsRun := by
  intro i t y length s hop hphase hfield hy
  rw [exec_dist hop hphase hfield hy]
  refine ⟨fun _ hdict hwindow hproduced => ?_, fun hbeyond => if_pos hbeyond⟩
  obtain ⟨hlo, hhi⟩ := distanceAt_range (t := t) hdict hy
  have hpast : ({ s with
      reader := s.reader.advance (distLens.getD t.val 0 + distExtra length s.dict.toNat)
      field := .none } : State).WindowHolds := hwindow.congr rfl rfl
  exact hpast.copyBack length hlo hproduced hhi

end Sys2Proof.Machine

/-! SUPPORT. `NextBit` and `NextBits` against the bit stream (R78 to R80). -/

namespace Sys2Proof

namespace BitReader

/-! ## `NextBit` (R79) -/

/-- The two parts of the position one bit on (R79). -/
theorem bump_position (r : BitReader) :
    r.bump.bytePos = (if r.bitPos = 7 then r.bytePos + 1 else r.bytePos) ∧
      r.bump.bitPos.val = if r.bitPos = 7 then 0 else r.bitPos.val + 1 := by
  unfold bump
  split
  case isTrue => exact ⟨rfl, rfl⟩
  case isFalse h7 => exact ⟨rfl, Fin.val_add_one_of_lt (Fin.lt_last_iff_ne_last.2 h7)⟩

/-- `NextBit` while there is a byte at the position: the current bit of that byte is the head of the stream (R79). -/
theorem nextBit_of_byte {r : BitReader} {v : Byte} (hv : r.src[r.bytePos]? = some v) :
    r.nextBit = .ok (v.getLsbD r.bitPos.val) r.bump ∧ r.bits = v.getLsbD r.bitPos.val :: r.bump.bits := by
  have hread : r.nextBit = .ok (v.getLsbD r.bitPos.val) r.bump := by simp [nextBit, hv]
  rcases r.nextBit_cases with ⟨b, rest, hbits, hok⟩ | ⟨-, hbad⟩
  · obtain ⟨-, hrest⟩ := nextBit_cons hbits
    rw [hread] at hok
    cases hok
    exact ⟨hread, by rw [hbits, hrest]⟩
  · rw [hread] at hbad
    cases hbad

/-- With no byte at the position the stream has ended (R78). -/
theorem bits_eq_nil_of_no_byte {r : BitReader} (hnone : r.src[r.bytePos]? = none) : r.bits = [] := by
  have hhead := bits_head r
  rwa [hnone, Option.map_none, List.getElem?_eq_none_iff, Nat.le_zero, List.length_eq_zero_iff] at hhead

/-! ## `NextBits` (R80) -/

/-- On a stream that is too short every bit left is read before the fault (R80). -/
theorem nextBits_of_short {n : Nat} {r : BitReader} (h : r.bits.length < n) :
    nextBits n r =
      .bad .unexpectedEndOfInput (.atBit (r.inBits + r.bits.length)) (r.advance r.bits.length) := by
  induction n generalizing r with
  | zero => exact absurd h (Nat.not_lt_zero _)
  | succ n ih =>
    rcases r.nextBit_cases with ⟨b, rest, hbits, hread⟩ | ⟨hbits, hread⟩
    · obtain ⟨-, hrest⟩ := nextBit_cons hbits
      rw [hbits, List.length_cons] at h ⊢
      rw [nextBits, hread, Read.bind_ok, ih (by rw [hrest]; omega), Read.bind_bad, hrest, bump_inBits, advance_succ,
        Nat.add_assoc, Nat.add_comm 1]
    · rw [nextBits, hread, hbits]
      rfl

/-- Bit `i` of the stream left is bit `(inBits + i) mod 8` of byte `(inBits + i) / 8` (R9, R78). -/
theorem bits_getElem? (r : BitReader) (i : Nat) :
    r.bits[i]? = r.src[(r.inBits + i) / 8]?.map fun v => v.getLsbD ((r.inBits + i) % 8) := by
  have hsplit := streamBits_get r.src ((r.inBits + i) / 8) ⟨(r.inBits + i) % 8, Nat.mod_lt _ (by decide)⟩
  rwa [Nat.div_add_mod, ← List.getElem?_drop] at hsplit

end BitReader

theorem rawBits_getElem? {n i : Nat} (v : Nat) (hi : i < n) : (rawBits n v)[i]? = some (v.testBit i) := by
  simp [rawBits, hi]

/-- Every bit string is a raw field (R57). -/
theorem exists_rawBits_eq (bs : List Bit) : ∃ v, v < 2 ^ bs.length ∧ rawBits bs.length v = bs := by
  induction bs with
  | nil => exact ⟨0, by decide, rfl⟩
  | cons b bs ih =>
    obtain ⟨v, hv, hraw⟩ := ih
    have hb := b.toNat_le
    exact ⟨b.toNat + 2 * v, by rw [List.length_cons, Nat.pow_succ]; omega,
      by rw [List.length_cons, rawBits_succ, hraw]⟩

namespace BitReader

/-- On a stream that is long enough the value is the raw field of the next `n` bits (R80). -/
theorem nextBits_of_le {n : Nat} {r : BitReader} (h : n ≤ r.bits.length) :
    ∃ v, nextBits n r = .ok v (r.advance n) ∧ v < 2 ^ n ∧ ∀ i, i < n → r.bits[i]? = some (v.testBit i) := by
  obtain ⟨v, hv, hraw⟩ := exists_rawBits_eq (r.bits.take n)
  rw [List.length_take_of_le h] at hv hraw
  refine ⟨v, (ReadsSpellings.nextBits n r v _).2 ⟨_, ⟨hv, rfl⟩, ?_, by rw [rawBits_length]⟩, hv, fun i hi => ?_⟩
  · rw [hraw]
    exact List.take_prefix n r.bits
  · rw [← rawBits_getElem? v hi, hraw, List.getElem?_take_of_lt hi]

/-- `NextBits(n)` is the number below `2 ^ n` whose bits are the next `n` bits of the stream (R80). -/
theorem nextBits_value_of_bits {n v : Nat} {r : BitReader} (hv : v < 2 ^ n)
    (hbits : ∀ i, i < n → r.bits[i]? = some (v.testBit i)) : (nextBits n r).value? = some v := by
  have hlen : n ≤ r.bits.length := by
    by_contra hshort
    have hmissing := hbits r.bits.length (by omega)
    rw [List.getElem?_eq_none (Nat.le_refl _)] at hmissing
    cases hmissing
  obtain ⟨w, hread, hw, hwbits⟩ := nextBits_of_le hlen
  have hvw : v = w := by
    refine Nat.eq_of_testBit_eq fun i => ?_
    rcases Nat.lt_or_ge i n with hi | hi
    · exact Option.some.inj ((hbits i hi).symm.trans (hwbits i hi))
    · have hpow := Nat.pow_le_pow_right (by decide : 0 < 2) hi
      rw [Nat.testBit_lt_two_pow (by omega), Nat.testBit_lt_two_pow (by omega)]
  rw [hread, hvw]
  rfl

/-- `NextBits(8)` at a byte boundary is the byte (R80). -/
theorem nextBits_eight_at_byte {r : BitReader} {v : Byte} (hv : r.src[r.bytePos]? = some v) (hpos : r.bitPos = 0) :
    (nextBits 8 r).value? = some v.toNat := by
  refine nextBits_value_of_bits v.isLt fun i hi => ?_
  have hin : r.inBits = 8 * r.bytePos := by simp [inBits, hpos]
  have hdiv : (r.inBits + i) / 8 = r.bytePos := by omega
  have hmod : (r.inBits + i) % 8 = i := by omega
  rw [bits_getElem?, hdiv, hmod, hv]
  rfl

/-- `NextBits(8)` off a byte boundary joins the rest of one byte and the beginning of the next (R80). -/
theorem nextBits_eight_across_bytes {r : BitReader} {v w : Byte} (hv : r.src[r.bytePos]? = some v)
    (hw : r.src[r.bytePos + 1]? = some w) :
    (nextBits 8 r).value? =
      some ((v.toNat >>> r.bitPos.val) ||| ((w.toNat <<< (8 - r.bitPos.val)) &&& 0xFF)) := by
  have hp := r.bitPos.isLt
  have hv8 : v.toNat < 2 ^ 8 := v.isLt
  refine nextBits_value_of_bits (Nat.or_lt_two_pow ((Nat.shiftRight_le _ _).trans_lt hv8)
    (Nat.and_lt_two_pow _ (by decide))) fun i hi => ?_
  have hbit : ((v.toNat >>> r.bitPos.val) ||| ((w.toNat <<< (8 - r.bitPos.val)) &&& 0xFF)).testBit i =
      (v.toNat.testBit (r.bitPos.val + i) ||
        (decide (8 - r.bitPos.val ≤ i) && w.toNat.testBit (i - (8 - r.bitPos.val)))) := by
    rw [Nat.testBit_or, Nat.testBit_shiftRight, Nat.testBit_and, Nat.testBit_shiftLeft,
      Nat.testBit_two_pow_sub_one 8, decide_eq_true hi, Bool.and_true]
  rw [hbit, bits_getElem?, inBits]
  rcases Nat.lt_or_ge (r.bitPos.val + i) 8 with hlow | hhigh
  · have hdiv : (8 * r.bytePos + r.bitPos.val + i) / 8 = r.bytePos := by omega
    have hmod : (8 * r.bytePos + r.bitPos.val + i) % 8 = r.bitPos.val + i := by omega
    rw [hdiv, hmod, hv, decide_eq_false (by omega), Bool.false_and, Bool.or_false]
    rfl
  · have hdiv : (8 * r.bytePos + r.bitPos.val + i) / 8 = r.bytePos + 1 := by omega
    have hmod : (8 * r.bytePos + r.bitPos.val + i) % 8 = i - (8 - r.bitPos.val) := by omega
    have hpow := Nat.pow_le_pow_right (by decide : 0 < 2) hhigh
    rw [hdiv, hmod, hw, decide_eq_true (by omega), Bool.true_and, Nat.testBit_lt_two_pow (by omega), Bool.false_or]
    rfl

end BitReader

/-- A bit of a byte, by the shift that brings it to the end (R79). -/
theorem getLsbD_eq_decide_shiftRight (v : Byte) (i : Nat) : v.getLsbD i = decide ((v.toNat >>> i) % 2 = 1) := by
  rw [Nat.shiftRight_eq_div_pow]
  exact Nat.testBit_eq_decide_div_mod_eq

/-- Settles O1: whether there is a byte at the position decides, and the position moves one bit on. -/
theorem nextBitConsumesOneBit : Obligations.NextBitConsumesOneBit := by
  intro r
  refine ⟨fun v hv => ?_, fun hnone => ?_⟩
  · obtain ⟨hread, hbits⟩ := BitReader.nextBit_of_byte hv
    obtain ⟨hbyte, hbit⟩ := r.bump_position
    rw [← getLsbD_eq_decide_shiftRight]
    exact ⟨r.bump, hread, r.bump_src, hbyte, hbit, r.bump_inBits, hbits⟩
  · have hbits := BitReader.bits_eq_nil_of_no_byte hnone
    exact ⟨BitReader.nextBit_nil hbits, hbits⟩

/-- Settles O2: the value is the raw field of the next bits of the stream, of which there are enough or not. -/
theorem nextBitsIsLittleEndian : Obligations.NextBitsIsLittleEndian := by
  intro n r
  refine ⟨fun hle => ?_, BitReader.nextBits_of_short, rfl, fun v hv => ⟨BitReader.nextBits_eight_at_byte hv, ?_⟩⟩
  · obtain ⟨v, hread, hlt, hbits⟩ := BitReader.nextBits_of_le hle
    exact ⟨v, hread, hlt, hbits, r.advance_bits n⟩
  · exact fun _ w hw => BitReader.nextBits_eight_across_bytes hv hw

end Sys2Proof

/-! SUPPORT. Steps go on: every item and every table of a run answers a next state, and moves the sequencer and the
position forward (R103, R104, R160). -/

namespace Sys2Proof

/-! ## The fewest bits an operation takes at a context (R58, R81) -/

/-- The fewest bits of an operation at a context (R58, R81). -/
def Ctx.minWidth : Ctx → Nat
  | .header => 16
  | .fixedTable => 0
  | .tableUnit => 8
  | .token _ _ => 2
  | .litCode _ => 1
  | .lenCode => 2
  | .distCode _ _ => 2

theorem two_le_opWidth_token {lits : Option (List Nat)} {dict : Nat} {op : Op}
    (hc : (Ctx.token lits dict).wf = true) (h : opFits (.token lits dict) op = true) :
    2 ≤ opWidth (.token lits dict) op := by
  obtain ⟨hlo, hhi⟩ := Ctx.dict_of_wf_token hc
  rcases opFits_token_cases h with ⟨v, rfl, -⟩ | ⟨lens, v, rfl, rfl, hcode⟩ | ⟨s, x, t, y, rfl⟩ | rfl
  · exact (by decide : 2 ≤ 9)
  · simp only [opWidth, Ctx.lits]
    omega
  · have hmatch := opWidth_matchRef_range (lits := lits) hlo hhi s x t y
    omega
  · exact (by decide : 2 ≤ 16)

theorem Ctx.minWidth_le_opWidth {c : Ctx} {op : Op} (hc : c.wf = true) (h : opFits c op = true) :
    c.minWidth ≤ opWidth c op := by
  cases c with
  | header =>
    obtain ⟨L, D, rfl⟩ := opFits_header.1 h
    exact Nat.le_refl 16
  | fixedTable => exact Nat.zero_le _
  | tableUnit =>
    obtain ⟨l, r, rfl⟩ := opFits_tableUnit.1 h
    exact Nat.le_refl 8
  | token lits dict => exact two_le_opWidth_token hc h
  | litCode lens =>
    obtain ⟨v, rfl, hcode⟩ := opFits_litCode.1 h
    exact Nat.pos_of_ne_zero hcode
  | lenCode =>
    obtain ⟨s, x, rfl, -⟩ := opFits_lenCode.1 h
    exact (lenWidth_range s).1
  | distCode length dict =>
    obtain ⟨t, y, rfl, -⟩ := opFits_distCode.1 h
    exact (distLens_range t).1.trans (Nat.le_add_right ..)

end Sys2Proof

namespace Sys2Proof.Machine

open Sys2Proof.Claims

namespace State

variable {s t : State}

/-! ## Every item of a run answers a next state (R104) -/

theorem expects_fixedTable (hphase : s.phase = .littab) (hfield : s.field = .none) (hsrc : s.litSrc = .fixed) :
    s.expects = .ctx .fixedTable := by
  simp [expects, hphase, hfield, hsrc]

theorem expects_rawToken (hphase : s.phase = .token) (hfield : s.field = .none) (hraw : s.litCoded = false) :
    s.expects = .ctx (.token none s.dict.toNat) := by
  simp [expects, hphase, hfield, hraw]

theorem atTable_eq_true_iff : s.atTable = true ↔ s.phase = .littab ∧ s.field = .none ∧ s.litSrc = .stream := by
  simp [atTable, and_assoc]

/-- The phases in which the engine has a step (R104). -/
def Running (s : State) : Prop := s.phase = .header ∨ s.phase = .littab ∨ s.phase = .token

/-- In phase `TOKEN` a state of a run stands at a token or inside one (R112). -/
theorem Inv.expects_of_token (h : s.Inv) (hphase : s.phase = .token) : ∃ c, s.expects = .ctx c := by
  have hfits := h.fieldFits
  cases hfield : s.field with
  | none =>
    cases hcoded : s.litCoded with
    | false => exact ⟨_, expects_rawToken hphase hfield hcoded⟩
    | true =>
      obtain ⟨lens, hlens, -⟩ := h.tableLoaded hphase hcoded
      exact ⟨_, expects_codedToken hphase hfield hcoded hlens⟩
  | unit => simp [FieldFits, hfield, hphase] at hfits
  | lit =>
    simp only [FieldFits, hfield] at hfits
    obtain ⟨lens, hlens, -⟩ := h.tableLoaded hphase hfits.2
    exact ⟨_, expects_litCode hphase hfield hlens⟩
  | len => exact ⟨_, expects_lenCode hphase hfield⟩
  | dist length => exact ⟨_, expects_distCode hphase hfield⟩

/-- A state of a run that can step and is not at the start of a transmitted table stands at a decode context (R105). -/
theorem Inv.expects_ctx (h : s.Inv) (hrun : s.Running) (htable : s.atTable = false) : ∃ c, s.expects = .ctx c := by
  have hfits := h.fieldFits
  rcases hrun with hphase | hphase | hphase
  · cases hfield : s.field with
    | none => exact ⟨_, expects_header hphase hfield⟩
    | unit | lit | len | dist => simp [FieldFits, hfield, hphase] at hfits
  · cases hfield : s.field with
    | none =>
      cases hsrc : s.litSrc with
      | fixed => exact ⟨_, expects_fixedTable hphase hfield hsrc⟩
      | stream => simp [atTable, hphase, hfield, hsrc] at htable
    | unit => exact ⟨_, expects_tableUnit hphase hfield⟩
    | lit | len | dist => simp [FieldFits, hfield, hphase] at hfits
  · exact h.expects_of_token hphase

/-- The copy a distance code asks for goes ahead or raises its fault; it never meets an unwritten cell (R100, R102). -/
theorem Inv.copyBack_total (h : s.Inv) (hphase : s.phase = .token) {length : Nat} {t : Fin 64} {y : Nat}
    (hy : y < 2 ^ distExtra length s.dict.toNat) : ∃ u, s.copyBack (distanceAt s length t y) length = .next u := by
  obtain ⟨hlo, hhi⟩ := distanceAt_range (t := t) (h.dict_range hphase).2 hy
  rcases Nat.lt_or_ge s.produced (distanceAt s length t y) with hbeyond | hwithin
  · exact ⟨_, if_pos hbeyond⟩
  · obtain ⟨u, hu, -⟩ := h.window.copyBack length hlo hwithin hhi
    exact ⟨u, hu⟩

/-- Closing a unit answers a next state when the cells written so far have no gap (R111). -/
theorem closeTable_total (hcells : s.ltN = 256 → s.litLen.map Prod.fst = List.range 256) :
    ∃ t, s.closeTable = .next t := by
  rcases closeTable_cases s with ⟨-, hr⟩ | ⟨-, hr⟩ | ⟨hn, ⟨hnone, -⟩ | ⟨lens, -, -, hr⟩ | ⟨lens, -, -, hr⟩⟩
  · exact ⟨_, hr⟩
  · exact ⟨_, hr⟩
  · rw [litLens_eq_some.2 ⟨hcells hn, rfl⟩] at hnone
    cases hnone
  · exact ⟨_, hr⟩
  · exact ⟨_, hr⟩

/-- An operation at its place in a run has a next state (R104). -/
theorem Inv.opEffect_total {c : Ctx} {op : Op} {r : BitReader} (h : s.Inv) (hc : s.AtCtx c)
    (hfits : opFits c op = true) (hr : s.reader.Reaches r) :
    ∃ t, Machine.opEffect op c { s with reader := r } = .next t := by
  cases op with
  | hdr | littabFixed | litRaw | litCoded | endOfStream | len | lit => exact ⟨_, rfl⟩
  | ltp l n =>
    obtain ⟨hphase, hfield⟩ := hc.opPlace hfits
    obtain ⟨-, -, -, hcells⟩ := (fieldFits_of_unit hfield).1 h.fieldFits
    refine closeTable_total fun hfull => ?_
    rw [assignLens_ltN] at hfull
    exact hfull ▸ assignLens_cells hcells hfull.le
  | matchRef sym x d y =>
    have hphase : s.phase = .token := hc.opPlace hfits
    cases c with
    | token lits dict =>
      have hdict : dict = s.dict.toNat := by cases lits <;> exact hc.2.2.1
      obtain ⟨-, -, hy⟩ := opFits_matchRef.1 hfits
      exact (h.moveReader (ne_header_of_token hphase) hr).copyBack_total hphase (hdict ▸ hy)
    | _ => cases hfits
  | dist d y =>
    have hphase : s.phase = .token := hc.opPlace hfits
    cases c with
    | distCode length dict =>
      obtain ⟨-, -, rfl⟩ := hc
      exact ((h.moveReader (ne_header_of_token hphase) hr).setField hphase (fieldFits_of_none rfl)).copyBack_total
        hphase (of_decide_eq_true hfits)
    | token lits => cases lits <;> cases hfits
    | _ => cases hfits

theorem Inv.stepItem_total (h : s.Inv) {c : Ctx} (hexp : s.expects = .ctx c) : ∃ t, Machine.stepItem s = .next t := by
  have hc := atCtx_of_expects hexp
  cases hd : decode c s.reader with
  | bad k info r => exact ⟨_, stepItem_of_bad hexp hd⟩
  | ok i r =>
    obtain ⟨hfits, rfl⟩ := decode_ok (h.ctx_wf hc) hd
    have hr := (decode_onward c s.reader).reaches
    rw [hd] at hr
    rw [stepItem_of_ok hexp hd hfits]
    exact h.opEffect_total hc hfits hr

theorem Inv.tableLoop_total (h : s.Inv) (hfield : s.field = .unit) (n : Nat) : ∃ t, tableLoop n s = .next t := by
  induction n generalizing s with
  | zero => exact ⟨s, rfl⟩
  | succ n ih =>
    obtain ⟨hphase, -⟩ := (fieldFits_of_unit hfield).1 h.fieldFits
    obtain ⟨u, hu⟩ := h.stepItem_total (expects_tableUnit hphase hfield)
    simp only [tableLoop, hu]
    split
    case isTrue hmore => exact ih (h.stepItem hu) hmore
    case isFalse => exact ⟨u, rfl⟩

/-- Every state of a run that is not at its end has a next state (R104). -/
theorem Inv.step_total (h : s.Inv) (hrun : s.Running) : ∃ t, step s = .next t := by
  by_cases htable : s.atTable = true
  · rw [step_of_atTable htable]
    exact (h.openTable htable).tableLoop_total rfl 256
  · rw [Bool.not_eq_true] at htable
    rw [step_of_not_atTable htable]
    obtain ⟨c, hexp⟩ := h.expects_ctx hrun htable
    exact h.stepItem_total hexp

/-! ## Where an item or a table from a boundary leads (R103, R106) -/

theorem AtCtx.of_boundary {c : Ctx} (hc : s.AtCtx c) (hfield : s.field = .none) :
    c = .header ∨ c = .fixedTable ∨ ∃ lits dict, c = .token lits dict := by
  cases c with
  | header => exact .inl rfl
  | fixedTable => exact .inr (.inl rfl)
  | token lits dict => exact .inr (.inr ⟨lits, dict, rfl⟩)
  | tableUnit | litCode | lenCode | distCode => simp [AtCtx, hfield] at hc

theorem AtCtx.of_token_boundary {c : Ctx} (hc : s.AtCtx c) (hfield : s.field = .none) (hphase : s.phase = .token) :
    ∃ lits dict, c = .token lits dict := by
  rcases hc.of_boundary hfield with rfl | rfl | htoken
  · simp [AtCtx, hphase] at hc
  · simp [AtCtx, hphase] at hc
  · exact htoken

/-- `t` is where an operation that was started in `s` may leave the sequencer: at a boundary, and at the run's end, at
the next token or, after a header, at the table (R103, R106). -/
structure LeadsTo (s t : State) : Prop where
  boundary : t.field = .none
  next : t.ended = true ∨ t.phase = .token ∨ s.phase = .header ∧ t.phase = .littab

theorem LeadsTo.ended_or_token (h : s.LeadsTo t) (hphase : s.phase ≠ .header) : t.ended = true ∨ t.phase = .token := by
  obtain ⟨-, hend | htoken | ⟨hheader, -⟩⟩ := h
  · exact .inl hend
  · exact .inr htoken
  · exact absurd hheader hphase

theorem leadsTo_raise (k : ErrKind) (info : Info) (s u : State) : s.LeadsTo (u.raise k info) := ⟨rfl, .inl rfl⟩

theorem copyBack_leadsTo {u : State} {distance length : Nat} (hphase : u.phase = .token) (hfield : u.field = .none)
    (h : u.copyBack distance length = .next t) : s.LeadsTo t := by
  rcases copyBack_next h with rfl | hcopy
  · exact leadsTo_raise ..
  · obtain ⟨heq, -⟩ := copyBytes_frame hcopy
    rw [heq]
    exact ⟨hfield, .inr (.inl hphase)⟩

theorem headerEffect_leadsTo {u : State} (L D : Byte) (hphase : s.phase = .header) (hfield : u.field = .none) :
    s.LeadsTo (headerEffect L D u) := by
  unfold headerEffect
  split
  case isTrue =>
    refine ⟨hfield, .inr ?_⟩
    by_cases hL : L = 1
    · exact .inr ⟨hphase, if_pos hL⟩
    · exact .inl (if_neg hL)
  case isFalse => exact leadsTo_raise ..

/-- An operation that can stand at a boundary leads to one; `u` is the state past its bits. -/
theorem AtCtx.opEffect_leadsTo {c : Ctx} {op : Op} {u : State} (hc : s.AtCtx c) (hfield : s.field = .none)
    (hfits : opFits c op = true) (hphase : u.phase = s.phase) (hu : u.field = .none)
    (heff : opEffect op c u = .next t) : s.LeadsTo t := by
  rcases hc.of_boundary hfield with rfl | rfl | ⟨lits, dict, rfl⟩
  · obtain ⟨L, D, rfl⟩ := opFits_header.1 hfits
    cases heff
    exact headerEffect_leadsTo L D hc.1 hu
  · obtain rfl := opFits_fixedTable.1 hfits
    cases heff
    exact ⟨hu, .inr (.inl rfl)⟩
  · have htoken : u.phase = .token := hphase.trans (by cases lits <;> exact hc.1)
    rcases opFits_token_cases hfits with ⟨v, rfl, -⟩ | ⟨lens, v, rfl, -⟩ | ⟨sym, x, d, y, rfl⟩ | rfl
    · cases heff; exact ⟨hu, .inr (.inl htoken)⟩
    · cases heff; exact ⟨hu, .inr (.inl htoken)⟩
    · exact copyBack_leadsTo htoken hu heff
    · cases heff; exact ⟨rfl, .inl rfl⟩

theorem stepItem_leadsTo (hfield : s.field = .none) (h : stepItem s = .next t) : s.LeadsTo t := by
  obtain ⟨c, hexp, ⟨i, r, -, hfits, heff⟩ | ⟨k, info, r, -, rfl⟩⟩ := stepItem_next h
  · have hc := atCtx_of_expects hexp
    exact hc.opEffect_leadsTo hfield hfits (advance_phase ..) ((advance_field ..).trans hfield) heff
  · exact leadsTo_raise ..

/-- A unit of a table is followed by another one, or ends the run or the table; only a fault may come before its 8 bits
(R111). -/
theorem stepItem_of_unit (hfield : s.field = .unit) (h : stepItem s = .next t) :
    (t.field = .unit ∧ s.ltN < t.ltN ∧ t.ltN < 256 ∧ s.inBits < t.inBits) ∨
    (t.field = .none ∧ (t.ended = true ∨ t.phase = .token ∧ s.inBits < t.inBits)) := by
  obtain ⟨c, hexp, ⟨i, r, -, hfits, heff⟩ | ⟨k, info, r, -, rfl⟩⟩ := stepItem_next h
  case inr => exact .inr ⟨rfl, .inl rfl⟩
  obtain rfl := (atCtx_of_expects hexp).eq_tableUnit hfield
  obtain ⟨l, n, hop⟩ := opFits_tableUnit.1 hfits
  rw [hop] at heff
  rcases closeTable_next heff with ⟨hmore, rfl⟩ | ⟨info, rfl⟩ | ⟨lens, -, -, rfl⟩
  · exact .inl ⟨by simpa using hfield, by simp, hmore, by simp [inBits, opWidth]⟩
  · exact .inr ⟨rfl, .inl rfl⟩
  · exact .inr ⟨rfl, .inr ⟨rfl, by simp [inBits, opWidth]⟩⟩

/-- The loop of a table has rounds enough for its 256 symbols, so it ends the run or the table (R111). -/
theorem tableLoop_ends {n : Nat} (hfield : s.field = .unit) (hlt : s.ltN < 256) (hn : 256 ≤ s.ltN + n)
    (h : tableLoop n s = .next t) :
    t.field = .none ∧ (t.ended = true ∨ t.phase = .token ∧ s.inBits < t.inBits) := by
  induction n generalizing s with
  | zero => omega
  | succ n ih =>
    rw [tableLoop] at h
    cases hitem : stepItem s with
    | fault f => simp [hitem] at h
    | refused q => simp [hitem] at h
    | next u =>
      simp only [hitem] at h
      rcases stepItem_of_unit hfield hitem with ⟨hmore, hcount, hlt', hbits⟩ | ⟨hstop, hend⟩
      · rw [if_pos hmore] at h
        obtain ⟨hboundary, hend⟩ := ih hmore hlt' (by omega) h
        exact ⟨hboundary, hend.imp_right fun ⟨htoken, hbits'⟩ => ⟨htoken, hbits.trans hbits'⟩⟩
      · rw [if_neg (by simp [hstop])] at h
        cases h
        exact ⟨hstop, hend⟩

theorem step_of_table (htable : s.atTable = true) (h : step s = .next t) :
    t.field = .none ∧ (t.ended = true ∨ t.phase = .token ∧ s.inBits < t.inBits) := by
  rw [step_of_atTable htable] at h
  exact tableLoop_ends (s := s.openTable) rfl (by simp) (by simp) h

theorem step_leadsTo (hs : s.atBoundary) (h : step s = .next t) : s.LeadsTo t := by
  by_cases htable : s.atTable = true
  · obtain ⟨hfield, hend⟩ := step_of_table htable h
    exact ⟨hfield, hend.imp_right fun htoken => .inl htoken.1⟩
  · rw [step_of_not_atTable (Bool.eq_false_iff.2 htable)] at h
    exact stepItem_leadsTo hs h

/-! ## What an item consumes (R58, R81) -/

/-- An item of a run that does not end it consumes its operation's bits. -/
theorem Inv.stepItem_consumes (hs : s.Inv) {c : Ctx} (hexp : s.expects = .ctx c) (h : Machine.stepItem s = .next t) :
    t.ended = true ∨ s.inBits + c.minWidth ≤ t.inBits := by
  obtain ⟨c', hexp', ⟨i, r, -, hfits, heff⟩ | ⟨k, info, r, -, rfl⟩⟩ := stepItem_next h
  case inr => exact .inl rfl
  rw [hexp] at hexp'
  cases hexp'
  have hwidth := Ctx.minWidth_le_opWidth (hs.ctx_wf (atCtx_of_expects hexp)) hfits
  have hmoved : t.inBits = s.inBits + opWidth c i.op := by
    rw [inBits, (opEffect_extends heff).reader]
    simp [inBits]
  exact .inr (by omega)

/-- A token that does not end the run consumes 2 bits or more (R160). -/
theorem Inv.token_consumes (hs : s.Inv) (hboundary : s.atBoundary) (hphase : s.phase = .token) (h : step s = .next t) :
    t.ended = true ∨ s.inBits + 2 ≤ t.inBits := by
  rw [step_of_not_atTable (by simp [atTable, hphase])] at h
  obtain ⟨c, hexp, -⟩ := stepItem_next h
  obtain ⟨lits, dict, rfl⟩ := (atCtx_of_expects hexp).of_token_boundary hboundary hphase
  exact hs.stepItem_consumes hexp h

/-- A header that does not end the run consumes its 16 bits (R60). -/
theorem Inv.header_consumes (hs : s.Inv) (hboundary : s.atBoundary) (hphase : s.phase = .header)
    (h : step s = .next t) : t.ended = true ∨ s.inBits + 16 ≤ t.inBits := by
  rw [step_of_not_atTable (by simp [atTable, hphase])] at h
  exact hs.stepItem_consumes (expects_header hphase hboundary) h

/-- Every step of a run ends it, consumes a bit or loads the `FIXED` table (R160). -/
theorem Inv.step_progress (hs : s.Inv) (hboundary : s.atBoundary) (h : step s = .next t) :
    t.ended = true ∨ s.inBits < t.inBits ∨ (s.phase = .littab ∧ s.litSrc = .fixed ∧ t.phase = .token) := by
  by_cases htable : s.atTable = true
  · obtain ⟨-, hend⟩ := step_of_table htable h
    exact hend.imp_right fun htoken => .inl htoken.2
  · rw [step_of_not_atTable (Bool.eq_false_iff.2 htable)] at h
    obtain ⟨c, hexp, -⟩ := stepItem_next h
    have hc := atCtx_of_expects hexp
    have hconsumes : 0 < c.minWidth → t.ended = true ∨ s.inBits < t.inBits :=
      fun hpos => (hs.stepItem_consumes hexp h).imp_right (Nat.lt_add_of_pos_right hpos).trans_le
    rcases hc.of_boundary hboundary with rfl | rfl | ⟨lits, dict, rfl⟩
    · exact (hconsumes (by decide)).imp_right .inl
    · obtain ⟨hlittab, -, hfixed⟩ := hc
      have hleads := (stepItem_leadsTo hboundary h).ended_or_token (by simp [hlittab])
      exact hleads.imp_right fun htoken => .inr ⟨hlittab, hfixed, htoken⟩
    · exact (hconsumes (Nat.zero_lt_two)).imp_right .inl

end State

/-- Settles O24: headers and tokens consume their bits, tables either theirs or, on a `FIXED` engine, none. -/
theorem everyStepMakesProgress : Obligations.EveryStepMakesProgress := by
  intro s t hs hboundary h
  refine ⟨or_left_comm.1 (hs.step_progress hboundary h), fun hphase hgoing => ?_⟩
  exact (hs.token_consumes hboundary hphase h).resolve_left (by simp [hgoing])

end Sys2Proof.Machine

/-! SUPPORT. Runs end: the position and the phase bound the number of steps (R160). -/

namespace Sys2Proof.Machine

namespace State

variable {s t : State}

theorem run_succ (h : step s = .next t) (k : Nat) : Sys2Proof.core.run (k + 1) s = Sys2Proof.core.run k t := by
  have hcore : Sys2Proof.core.step s = .next t := h
  simp only [Host.Core.run, hcore]

/-- Some number of steps, at most `n`, takes `s` to the end of its run (R158). -/
def EndsWithin (n : Nat) (s : State) : Prop :=
  ∃ m t, m ≤ n ∧ Sys2Proof.core.run m s = .next t ∧ ended t = true

theorem EndsWithin.of_ended (n : Nat) (h : s.ended = true) : EndsWithin n s := ⟨0, s, Nat.zero_le n, rfl, h⟩

theorem EndsWithin.mono {m n : Nat} (h : EndsWithin m s) (hmn : m ≤ n) : EndsWithin n s := by
  obtain ⟨k, t, hk, hrun, hend⟩ := h
  exact ⟨k, t, hk.trans hmn, hrun, hend⟩

theorem EndsWithin.of_step {n : Nat} (h : step s = .next t) (ht : EndsWithin n t) : EndsWithin (n + 1) s := by
  obtain ⟨k, u, hk, hrun, hend⟩ := ht
  exact ⟨k + 1, u, Nat.succ_le_succ hk, (run_succ h k).trans hrun, hend⟩

/-- The bits still to be read (R78). -/
def bitsLeft (s : State) : Nat := 8 * s.reader.src.length - s.inBits

/-- What a step consumes is no longer to be read, and it has not read more than there was (R78). -/
theorem Inv.bitsLeft_step (hs : s.Inv) {n : Nat} (h : step s = .next t) (hn : s.inBits + n ≤ t.inBits) :
    t.bitsLeft + n ≤ s.bitsLeft := by
  obtain ⟨-, hsrc, -⟩ := positionNeverMovesBack s t h
  have hposition := (stepKeepsInv s t hs h).position
  rw [hsrc] at hposition
  rw [bitsLeft, bitsLeft, hsrc]
  omega

/-- From a token on, a run takes at most one step for every 2 bits left and one that ends it (R81, R160). -/
theorem Inv.endsWithin_of_token (hs : s.Inv) (hboundary : s.atBoundary) (hphase : s.phase = .token) :
    EndsWithin (s.bitsLeft / 2 + 1) s := by
  induction hleft : s.bitsLeft using Nat.strong_induction_on generalizing s with
  | _ left ih =>
    obtain ⟨t, h⟩ := hs.step_total (.inr (.inr hphase))
    refine .of_step h ?_
    rcases hs.token_consumes hboundary hphase h with hend | hbits
    · exact .of_ended _ hend
    · have hleads := step_leadsTo hboundary h
      rcases hleads.ended_or_token (ne_header_of_token hphase) with hend | htoken
      · exact .of_ended _ hend
      · have hless := hs.bitsLeft_step h hbits
        exact (ih _ (by omega) (stepKeepsInv s t hs h) hleads.boundary htoken rfl).mono (by omega)

/-- From a literal table on, a run takes one step more than from a token (R160). -/
theorem Inv.endsWithin_of_littab (hs : s.Inv) (hboundary : s.atBoundary) (hphase : s.phase = .littab) :
    EndsWithin (s.bitsLeft / 2 + 2) s := by
  obtain ⟨t, h⟩ := hs.step_total (.inr (.inl hphase))
  refine .of_step h ?_
  have hleads := step_leadsTo hboundary h
  rcases hleads.ended_or_token (by simp [hphase]) with hend | htoken
  · exact .of_ended _ hend
  · obtain ⟨hbits, -⟩ := positionNeverMovesBack s t h
    have hless := hs.bitsLeft_step (n := 0) h hbits
    exact ((stepKeepsInv s t hs h).endsWithin_of_token hleads.boundary htoken).mono (by omega)

/-- A header ends the run, or is followed by a run that its 16 bits are no longer part of (R108, R160). -/
theorem Inv.endsWithin_of_header (hs : s.Inv) (hboundary : s.atBoundary) (hphase : s.phase = .header) :
    EndsWithin (if 16 ≤ s.bitsLeft then 3 + (s.bitsLeft - 16) / 2 else 1) s := by
  obtain ⟨t, h⟩ := hs.step_total (.inl hphase)
  rcases hs.header_consumes hboundary hphase h with hend | hbits
  · exact (EndsWithin.of_step h (.of_ended 0 hend)).mono (by split <;> omega)
  · have hless := hs.bitsLeft_step h hbits
    have ht := stepKeepsInv s t hs h
    have hrest : EndsWithin (t.bitsLeft / 2 + 2) t := by
      obtain ⟨hboundary', hend | htoken | ⟨-, hlittab⟩⟩ := step_leadsTo hboundary h
      · exact .of_ended _ hend
      · exact (ht.endsWithin_of_token hboundary' htoken).mono (by omega)
      · exact ht.endsWithin_of_littab hboundary' hlittab
    exact (EndsWithin.of_step h hrest).mono (by rw [if_pos (by omega)]; omega)

end State

/-- Settles O25: after the header's 16 bits, one step for a table and one for every 2 bits, with one that ends the
run. -/
theorem runsEndWithinBound : Obligations.RunsEndWithinBound := by
  intro s src
  have hleft : (s.hostReset src).bitsLeft = 8 * src.length := rfl
  have hends := (resetMeetsInv.2 src s).endsWithin_of_header rfl rfl
  refine hends.mono ?_
  rw [hleft]
  split <;> split <;> omega

end Sys2Proof.Machine

/-! SUPPORT. `HuffDecode` on the fixed tables, on a complete table and on a table with no codes (R86, R93). -/

namespace Sys2Proof

open Huffman

/-! ## Complete tables (R85, R86, R93) -/

namespace Huffman

/-- A verdict of `complete` leaves no free code of the last length it looks at, so the first code one bit longer lies
just past the code space (R85); `left` is the code space that shorter codes leave. -/
theorem first_of_kraftFrom_complete {lens : List Nat} {n L left : Nat}
    (hleft : 2 * left + first lens (L + 1) = 2 ^ (L + 1)) (h : kraftFrom lens n (L + 1) left = .complete) :
    first lens (L + n + 1) = 2 ^ (L + n + 1) := by
  induction n generalizing L left with
  | zero =>
    rw [kraftFrom] at h
    split at h
    case isTrue hzero => simpa [hzero] using hleft
    case isFalse => cases h
  | succ n ih =>
    rw [kraftFrom] at h
    split at h
    case isTrue => cases h
    case isFalse hfit =>
      rw [← Nat.add_assoc, Nat.add_right_comm L n 1]
      refine ih ?_ h
      rw [first_succ_succ, Nat.pow_succ]
      omega

/-- Past the longest code the first code only grows by the bits appended to it (R83). -/
theorem first_past_maxlen (lens : List Nat) (m : Nat) :
    first lens (maxlen lens + m + 1) = first lens (maxlen lens + 1) * 2 ^ m := by
  induction m with
  | zero => simp
  | succ m ih =>
    have hnone : count lens (maxlen lens + m + 1) = 0 :=
      List.count_eq_zero.2 fun hmem => by have := le_maxlen hmem; omega
    rw [← Nat.add_assoc, first_succ_succ, hnone, ih, Nat.pow_succ]
    ring

/-- The codes of a complete table fill the code space up to its longest code (R85). -/
theorem first_of_complete {lens : List Nat} (hlens : ∀ l ∈ lens, l < 16) (h : kraft lens = .complete) :
    first lens (maxlen lens + 1) = 2 ^ (maxlen lens + 1) := by
  have hmax : maxlen lens ≤ 15 := maxlen_le fun l hl => Nat.le_of_lt_succ (hlens l hl)
  obtain ⟨m, hm⟩ := Nat.exists_eq_add_of_le hmax
  have hfull : first lens (0 + 15 + 1) = 2 ^ (0 + 15 + 1) := first_of_kraftFrom_complete (left := 1) rfl h
  rw [Nat.zero_add, hm, first_past_maxlen, Nat.add_right_comm, Nat.pow_add] at hfull
  exact Nat.eq_of_mul_eq_mul_right (Nat.two_pow_pos m) hfull

end Huffman

/-- The loop of R86 after `k` bits of value `code`, past all codes as short: where the codes of up to `k + n` bits fill
the code space, it fails only because the input ends. -/
theorem huffLoop_of_full (table : TableId) {lens : List Nat} {n k code : Nat} (index : Nat) (r : BitReader)
    (hcode : code < 2 ^ k) (hpast : first lens (k + 1) ≤ 2 * code)
    (hfull : first lens (k + n + 1) = 2 ^ (k + n + 1)) :
    (∃ s r', huffLoop table lens n (k + 1) code (first lens (k + 1)) index r = .ok s r') ∨
    (∃ i r', huffLoop table lens n (k + 1) code (first lens (k + 1)) index r =
      .bad .unexpectedEndOfInput (.atBit i) r') := by
  induction n generalizing k code index r with
  | zero =>
    rw [Nat.add_zero, Nat.pow_succ] at hfull
    omega
  | succ n ih =>
    rw [huffLoop]
    rcases r.nextBit_cases with ⟨b, _, -, hok⟩ | ⟨-, hbad⟩
    case inr => exact .inr ⟨_, _, by rw [hbad]; rfl⟩
    rw [hok, Read.bind_ok]
    dsimp only
    split
    case isTrue => exact .inl ⟨_, _, rfl⟩
    case isFalse hge =>
      rw [← first_succ_succ]
      refine ih _ _ ?_ ?_ ?_
      · rw [Nat.pow_succ]
        omega
      · rw [first_succ_succ]
        omega
      · rwa [Nat.add_right_comm k 1 n]

/-! ## The statements about tables -/

/-- Settles O5: the decoder answers a symbol exactly when the symbol's code is next. -/
theorem canonicalCodesDecode : Obligations.CanonicalCodesDecode := by
  intro table lens s r rest hlens hk hs hcode hbits
  exact (huffDecode_eq_ok_iff hlens hk).2 ⟨⟨hs, hcode⟩, ⟨rest, hbits.symm⟩, rfl⟩

/-- Settles O4: a complete table's codes fill the code space of the longest, so its bits are never past all codes. -/
theorem completeTableNeverInvalidCode : Obligations.CompleteTableNeverInvalidCode := by
  intro table lens r hlens hk
  refine huffLoop_of_full (k := 0) table 0 r (Nat.two_pow_pos 0) (Nat.le_refl 0) ?_
  rw [Nat.zero_add]
  exact first_of_complete hlens hk

/-- Settles O3: each run list is as long as its table, and verdicts, longest codes and counts are computed. -/
theorem fixedTablesComplete : Obligations.FixedTablesComplete :=
  ⟨Machine.expand_litRom, if_pos (by decide), if_pos (by decide), by decide +kernel⟩

/-- Settles O6: with no codes the longest is of 0 bits, so the loop ends before its first bit. -/
theorem emptyTableIsInvalidCode : Obligations.EmptyTableIsInvalidCode := by
  intro table lens r hzero
  have hmax : maxlen lens = 0 := Nat.le_zero.1 (maxlen_le fun l hl => (hzero l hl).le)
  rw [huffDecode, hmax, huffLoop, hmax]

end Sys2Proof

/-! SUPPORT. The window under literals and matches (R96 to R102): what a literal or a match writes and leaves alone, and how
far back a match reaches. -/

namespace Sys2Proof.Machine

open Sys2Proof.Claims

namespace State

variable {s t : State}

/-! ## Tokens at their context (R112) -/

/-- At a token's start the sequencer expects a token at the state's `dict`; a coded-literal stream needs its table. -/
theorem expects_token (hphase : s.phase = .token) (hfield : s.field = .none)
    (htable : s.litCoded = true → ∃ lens, s.litLens = some lens) :
    ∃ lits, s.expects = .ctx (.token lits s.dict.toNat) := by
  cases hcoded : s.litCoded with
  | false => exact ⟨none, expects_rawToken hphase hfield hcoded⟩
  | true =>
    obtain ⟨lens, hlens⟩ := htable hcoded
    exact ⟨some lens, expects_codedToken hphase hfield hcoded hlens⟩

theorem AtCtx.of_token {lits : Option (List Nat)} {dict : Nat} (hc : s.AtCtx (.token lits dict)) :
    s.phase = .token ∧ s.field = .none ∧ dict = s.dict.toNat := by
  cases lits with
  | none =>
    obtain ⟨hphase, hfield, hdict, -⟩ := hc
    exact ⟨hphase, hfield, hdict⟩
  | some lens =>
    obtain ⟨hphase, hfield, hdict, -⟩ := hc
    exact ⟨hphase, hfield, hdict⟩

/-! ## The copy and the window (R99 to R101) -/

/-- A copy writes only the cells of the bytes it emits (R98, R99). -/
theorem copyBytes_memRead {distance length : Nat} (h : s.copyBytes distance length = some t) {a : Nat}
    (ha : ∀ k, k < length → a ≠ (s.produced + k) % 4096) : t.memRead a = s.memRead a := by
  induction length generalizing s with
  | zero => cases h; rfl
  | succ n ih =>
    obtain ⟨b, h⟩ := copyBytes_succ h
    have hrest : ∀ k, k < n → a ≠ ((s.emit b).produced + k) % 4096 := fun k hk => by
      rw [emit_produced, Nat.add_assoc, Nat.add_comm 1 k]
      exact ha (k + 1) (Nat.succ_lt_succ hk)
    rw [ih h hrest, emit_memRead, if_neg (by simpa using ha 0 (Nat.zero_lt_succ n))]

/-- `CopyBack` raises its fault exactly beyond the bytes produced; within them it is the copy, which changes only the
output and the cells of the bytes emitted (R99, R100, R130). -/
theorem copyBack_next_frame {distance length : Nat} (h : s.copyBack distance length = .next t) :
    (s.produced < distance ∧ t = s.raise .invalidDistance (.distance distance s.produced)) ∨
    (distance ≤ s.produced ∧ t = { s with out := t.out, win := t.win } ∧ t.out.length = s.out.length + length ∧
      ∀ a, (∀ k, k < length → a ≠ (s.produced + k) % 4096) → t.memRead a = s.memRead a) := by
  rcases copyBack_cases distance length s with ⟨hbeyond, hr⟩ | ⟨hwithin, ⟨u, hu, hr⟩ | ⟨-, hr⟩⟩
  · rw [hr] at h; cases h; exact .inl ⟨hbeyond, rfl⟩
  · rw [hr] at h
    cases h
    obtain ⟨heq, hlen⟩ := copyBytes_frame hu
    exact .inr ⟨hwithin, heq, hlen, fun _ => copyBytes_memRead hu⟩
  · rw [hr] at h; cases h

/-- The physical read behind the end of the output is the history (R101). -/
theorem WindowHolds.memRead_back (h : s.WindowHolds) {k : Nat} (hlo : 1 ≤ k) (hhi : k ≤ min s.produced 4096) :
    s.memRead ((s.produced - k) % 4096) = some (s.out.getD (s.produced - k) 0) := by
  have hproduced : s.produced = s.out.length := rfl
  rw [List.getD_eq_getElem _ _ (by omega)]
  exact h.recent (s.produced - k) (by omega) (by omega)

/-- The first byte a copy emits is the byte `distance` back (R99). -/
theorem copied_head (out : List Byte) {distance length : Nat} (hlo : 1 ≤ distance) (hhi : distance ≤ out.length)
    (hlength : 1 ≤ length) : (copied out distance length)[0]? = out[out.length - distance]? := by
  obtain ⟨n, rfl⟩ := Nat.exists_eq_add_of_le' hlength
  rw [copied_succ out n hlo hhi, List.getElem?_cons_zero, List.getD_eq_getElem _ _ (by omega),
    List.getElem?_eq_getElem]

end State

/-- At a legal `dict` a decodable distance is at most `CAP`: a length of 2 has the fewest extra bits (R97, R118). -/
theorem distanceAt_le_capacity {s : State} (hdict : 4 ≤ s.dict.toNat) {length : Nat} {t : Fin 64} {y : Nat}
    (hy : y < 2 ^ distExtra length s.dict.toNat) : distanceAt s length t y ≤ s.capacity := by
  have hextra : distExtra length s.dict.toNat ≤ s.dict.toNat := by
    unfold distExtra
    split <;> omega
  rw [State.capacity, Nat.shiftLeft_eq]
  exact (matchDistance_le hy).trans (Nat.mul_le_mul_left 64 (Nat.pow_le_pow_right (by decide) hextra))

theorem capacity_cases {s : State} (hlo : 4 ≤ s.dict.toNat) (hhi : s.dict.toNat ≤ 6) :
    s.capacity = 1024 ∨ s.capacity = 2048 ∨ s.capacity = 4096 := by
  have hdict : s.dict.toNat = 4 ∨ s.dict.toNat = 5 ∨ s.dict.toNat = 6 := by omega
  rw [State.capacity]
  rcases hdict with h | h | h <;> simp [h]

/-! ## What literals and matches that run have done -/

/-- A whole match runs at a token's start: its bits, and the copy (R116, R118 to R120). -/
theorem exec_matchRef {sym : Fin 16} {x : Nat} {t : Fin 64} {y : Nat} {s : State} (hphase : s.phase = .token)
    (hfield : s.field = .none) (htable : s.litCoded = true → ∃ lens, s.litLens = some lens) (hx : x < 2 ^ lenExtra sym)
    (hend : matchLength sym x ≠ endLength) (hy : y < 2 ^ distExtra (matchLength sym x) s.dict.toNat) :
    exec (.matchRef sym x t y) s =
      (s.advance (1 + lenLens.getD sym.val 0 + lenExtra sym + distLens.getD t.val 0 +
        distExtra (matchLength sym x) s.dict.toNat)).copyBack (distanceAt s (matchLength sym x) t y)
          (matchLength sym x) := by
  obtain ⟨lits, hexp⟩ := State.expects_token hphase hfield htable
  exact exec_of_fits (op := .matchRef sym x t y) rfl hexp (opFits_matchRef.2 ⟨hx, hend, hy⟩)

/-- A whole match that answered stood at a token's start, and its answer is the copy's. -/
theorem exec_matchRef_next {i : Instr} {sym : Fin 16} {x : Nat} {t : Fin 64} {y : Nat} {s u : State}
    (hop : i.op = .matchRef sym x t y) (h : exec i s = .next u) :
    s.phase = .token ∧ s.field = .none ∧ y < 2 ^ distExtra (matchLength sym x) s.dict.toNat ∧
      ∃ n, (s.advance n).copyBack (distanceAt s (matchLength sym x) t y) (matchLength sym x) = .next u := by
  obtain ⟨c, hexp, hfits, heff⟩ := exec_next h
  rw [hop] at hfits heff
  cases c with
  | token lits dict =>
    obtain ⟨hphase, hfield, rfl⟩ := (State.atCtx_of_expects hexp).of_token
    obtain ⟨-, -, hy⟩ := opFits_matchRef.1 hfits
    exact ⟨hphase, hfield, hy, _, heff⟩
  | _ => cases hfits

/-- A distance code that answered inside a match of this length has ended the token, and its answer is the copy's. -/
theorem exec_dist_next {i : Instr} {t : Fin 64} {y length : Nat} {s u : State} (hop : i.op = .dist t y)
    (hfield : s.field = .dist length) (h : exec i s = .next u) :
    ∃ n, ({ s.advance n with field := .none } : State).copyBack (distanceAt s length t y) length = .next u := by
  obtain ⟨c, hexp, hfits, heff⟩ := exec_next h
  rw [hop] at hfits heff
  cases c with
  | distCode length' dict =>
    obtain ⟨-, hfield', rfl⟩ := State.atCtx_of_expects hexp
    rw [hfield] at hfield'
    cases hfield'
    exact ⟨_, heff⟩
  | token lits => cases lits <;> cases hfits
  | _ => cases hfits

/-- A state at a boundary is itself with the model's own field not in use. -/
theorem setField_none_eq {s : State} (h : s.field = .none) : ({ s with field := .none } : State) = s := by
  rw [← h]

/-- A literal that answered, whole or inside its token, has moved past its bits, emitted its byte and ended the token
(R113, R114). -/
theorem exec_literal_next {i : Instr} {v : Byte} {s t : State}
    (hop : i.op = .litRaw v ∨ i.op = .litCoded v ∨ i.op = .lit v) (h : exec i s = .next t) :
    ∃ n, t = { (s.advance n).emit v with field := .none } := by
  obtain ⟨c, hexp, hfits, heff⟩ := exec_next h
  generalize opWidth c i.op = n at heff
  refine ⟨n, ?_⟩
  rcases hop with hop | hop | hop <;> rw [hop] at hfits heff <;> cases heff
  case inr.inr => rfl
  all_goals
    cases c with
    | token lits dict =>
      obtain ⟨-, hfield, -⟩ := (State.atCtx_of_expects hexp).of_token
      exact (setField_none_eq (s := (s.advance n).emit v) hfield).symm
    | _ => cases hfits

/-! ## The statements about the window -/

/-- Settles O50: `Emit` is one cell written and one byte appended, and that cell is the byte's own. -/
theorem emitKeepsWindow : Obligations.EmitKeepsWindow := by
  intro b s
  exact ⟨⟨_, rfl⟩, State.emit_produced b s, State.emit_memRead b s, fun h => h.emit b⟩

/-- Settles O51: the byte `k` back is one of the last 4096, which stand in the window. -/
theorem ringReadIsHistory : Obligations.RingReadIsHistory := by
  intro s k h hlo hhi
  exact h.memRead_back hlo hhi

/-- Settles O52: the check decides, and the copy goes byte by byte over a window that stays the recent output. -/
theorem copyRepeatsPattern : Obligations.CopyRepeatsPattern := by
  intro s distance length
  exact ⟨fun hbeyond => if_pos hbeyond, fun h hlo hproduced hwindow => h.copyBack length hlo hproduced hwindow⟩

/-- Settles O53: the check raises the fault only beyond the output, and no decodable distance is beyond `CAP`. -/
theorem distanceCheckBoundary : Obligations.DistanceCheckBoundary := by
  intro s length
  refine ⟨fun distance hbeyond => if_pos hbeyond, fun distance hwithin u hu => ?_, fun hwindow hlo hhi hlength => ?_,
    fun t y hdict _ hy hcap => (distanceAt_le_capacity hdict hy).trans hcap⟩
  · rcases State.copyBack_next_frame hu with ⟨hbeyond, -⟩ | ⟨-, heq, -⟩
    · exact absurd hbeyond (Nat.not_lt.2 hwithin)
    · rw [heq]
      exact ⟨rfl, rfl⟩
  · obtain ⟨u, hu, -, heq⟩ := hwindow.copyBack length hlo (Nat.le_refl _) hhi
    have hfirst : (copied s.out s.produced length)[0]? = s.out[0]? := by
      rw [State.copied_head s.out hlo (Nat.le_refl _) hlength, State.produced, Nat.sub_self]
    refine ⟨u, hu, by rw [heq], ?_⟩
    rw [heq, List.getElem?_append_right (Nat.le_refl s.produced), ← hfirst, State.produced, Nat.sub_self]

/-- Settles O40: the match's distance is within the window and the output, so the copy goes ahead. -/
theorem matchCopies : Obligations.MatchCopies := by
  intro sym x t y s hphase hfield htable _ hdict hwindow hx hend hy hproduced
  obtain ⟨hlo, hhi⟩ := distanceAt_range (t := t) hdict hy
  rw [exec_matchRef hphase hfield htable hx hend hy]
  exact (hwindow.congr rfl rfl : (s.advance _).WindowHolds).copyBack (matchLength sym x) hlo hproduced hhi

/-- Settles O41: the check is made past the match's bits, and it fails. -/
theorem matchBeyondOutputRaises : Obligations.MatchBeyondOutputRaises := by
  intro sym x t y s hphase hfield htable hx hend hy hbeyond
  rw [exec_matchRef hphase hfield htable hx hend hy]
  exact if_pos hbeyond

/-- Settles O46: a literal's effect is one `Emit`, which writes one cell. -/
theorem literalFrame : Obligations.LiteralFrame := by
  intro i v s t hop h
  obtain ⟨n, rfl⟩ := exec_literal_next hop h
  have hread := State.emit_memRead v s
  exact ⟨rfl, rfl, rfl, BitReader.advance_src s.reader n, rfl, rfl, rfl, rfl, rfl, rfl, rfl,
    (hread _).trans (if_pos rfl), fun a ha => (hread a).trans (if_neg ha)⟩

/-- Settles O47: whole or at its distance code, a match ends the token and is one `CopyBack`. -/
theorem matchFrame : Obligations.MatchFrame := by
  intro i s u length hop h
  obtain ⟨n, distance, hcopy⟩ :
      ∃ n d, ({ s.advance n with field := .none } : State).copyBack d length = .next u := by
    rcases hop with ⟨sym, x, t, y, hop, rfl⟩ | ⟨t, y, hop, hfield⟩
    · obtain ⟨-, hfield, -, n, hcopy⟩ := exec_matchRef_next hop h
      exact ⟨n, _, (setField_none_eq (s := s.advance n) hfield).symm ▸ hcopy⟩
    · obtain ⟨n, hcopy⟩ := exec_dist_next hop hfield h
      exact ⟨n, _, hcopy⟩
  have hsrc := BitReader.advance_src s.reader n
  rcases State.copyBack_next_frame hcopy with ⟨-, rfl⟩ | ⟨-, heq, hlen, hread⟩
  · exact ⟨hsrc, rfl, rfl, rfl, rfl, rfl, rfl, .inr ⟨rfl, rfl, rfl, fun _ => rfl⟩, fun _ _ => rfl⟩
  · rw [heq] at hread ⊢
    exact ⟨hsrc, rfl, rfl, rfl, rfl, rfl, rfl, .inl ⟨rfl, rfl, rfl, hlen⟩, hread⟩

/-- Settles O55: a match that is not a fault has passed the check, and no decodable distance is beyond `CAP`. -/
theorem matchStaysInCapacity : Obligations.MatchStaysInCapacity := by
  intro sym x t y s u hs h hphase
  obtain ⟨htoken, -, hy, n, hcopy⟩ := exec_matchRef_next rfl h
  obtain ⟨hlo, hhi⟩ := hs.dict_range htoken
  refine ⟨le_min ?_ (distanceAt_le_capacity hlo hy), capacity_cases hlo hhi⟩
  rcases State.copyBack_next_frame hcopy with ⟨-, rfl⟩ | ⟨hwithin, -⟩
  · exact absurd rfl hphase
  · exact hwithin

end Sys2Proof.Machine

/-! SUPPORT. Reads that run out of input: every bit left is consumed before the fault (R79, R80, R129). -/

namespace Sys2Proof

/-! ## Running out of input -/

/-- The read from `r` has consumed every bit left and then asked for one more (R79, R80). -/
def Read.RunsOut {α : Type} (r : BitReader) (m : Read α) : Prop :=
  m = .bad .unexpectedEndOfInput (.atBit (r.inBits + r.bits.length)) (r.advance r.bits.length)

namespace Read.RunsOut

variable {α β : Type} {r : BitReader} {f : α → BitReader → Read β}

theorem bind {m : Read α} (h : m.RunsOut r) : (m.bind f).RunsOut r := by
  rw [h]
  rfl

/-- What runs out past the first `n` of the bits left runs out of the bits left. -/
theorem of_advance {m : Read α} {n : Nat} (hn : n ≤ r.bits.length) (h : m.RunsOut (r.advance n)) : m.RunsOut r := by
  have hlen : (r.advance n).bits.length = r.bits.length - n := by rw [BitReader.advance_bits, List.length_drop]
  rw [h, hlen, BitReader.advance_inBits, ← BitReader.advance_add, Nat.add_assoc, Nat.add_sub_cancel' hn]
  rfl

/-- Reading on runs out when the first read answers and the next one runs out. -/
theorem bind_of_ok {m : Read α} {a : α} {n : Nat} (hm : m = .ok a (r.advance n)) (hn : n ≤ r.bits.length)
    (h : (f a (r.advance n)).RunsOut (r.advance n)) : (m.bind f).RunsOut r := by
  rw [hm]
  exact of_advance hn h

end Read.RunsOut

namespace BitReader

theorem nextBit_runsOut {r : BitReader} (h : r.bits = []) : r.nextBit.RunsOut r := by
  rw [nextBit_nil h, Read.RunsOut, h]
  rfl

/-- `NextBits` runs out exactly on a stream that is too short (R80). -/
theorem nextBits_runsOut {n : Nat} {r : BitReader} (h : r.bits.length < n) : (nextBits n r).RunsOut r :=
  nextBits_of_short h

/-- Two raw fields run out when the stream is too short for both (R80). -/
theorem nextBits_bind_runsOut {α : Type} {m n : Nat} {r : BitReader} (h : r.bits.length < m + n)
    (f : Nat → Nat → BitReader → Read α) :
    ((nextBits m r).bind fun v r => (nextBits n r).bind fun w r => f v w r).RunsOut r := by
  rcases Nat.lt_or_ge r.bits.length m with hshort | hlong
  · exact (nextBits_runsOut hshort).bind
  · obtain ⟨v, hread, -⟩ := nextBits_of_le hlong
    refine Read.RunsOut.bind_of_ok hread hlong (nextBits_runsOut ?_).bind
    rw [advance_bits, List.length_drop]
    omega

end BitReader

/-- The loop of R86 meets the end of the input only with every bit left consumed. -/
theorem huffLoop_runsOut {table : TableId} {lens : List Nat} {n L code first index : Nat} {r r' : BitReader}
    {info : Info} (h : huffLoop table lens n L code first index r = .bad .unexpectedEndOfInput info r') :
    (huffLoop table lens n L code first index r).RunsOut r := by
  induction n generalizing L code first index r with
  | zero => cases h
  | succ n ih =>
    rcases r.nextBit_cases with ⟨b, rest, hbits, hread⟩ | ⟨hbits, -⟩
    · refine Read.RunsOut.bind_of_ok (n := 1) hread (by simp [hbits]) ?_
      rw [huffLoop, hread, Read.bind_ok] at h
      dsimp only
      split
      case isTrue hcode => simp [hcode] at h
      case isFalse hcode => exact ih (r := r.bump) (by simpa [hcode] using h)
    · exact (BitReader.nextBit_runsOut hbits).bind

/-- A complete table runs out of input when no symbol's code is next (R86, R93). -/
theorem huffDecode_runsOut (table : TableId) {lens : List Nat} {r : BitReader} (hlens : ∀ l ∈ lens, l < 16)
    (hk : Huffman.kraft lens = .complete) (h : ∀ s r', huffDecode table lens r ≠ .ok s r') :
    (huffDecode table lens r).RunsOut r := by
  rcases completeTableNeverInvalidCode table lens r hlens hk with ⟨s, r', hok⟩ | ⟨n, r', hbad⟩
  · exact absurd hok (h s r')
  · exact huffLoop_runsOut hbad

/-! ## Operations cut off by the end of the input -/

/-- A header of fewer than 16 bits runs out, whatever its first byte (R107). -/
theorem decode_header_runsOut {r : BitReader} (h : r.bits.length < 16) : (decode .header r).RunsOut r :=
  (BitReader.nextBits_bind_runsOut (m := 8) (n := 8) h _).bind

theorem decode_tableUnit_runsOut {r : BitReader} (h : r.bits.length < 8) : (decode .tableUnit r).RunsOut r :=
  (BitReader.nextBits_runsOut h).bind.bind

/-- A raw literal of fewer than 9 bits runs out (R113). -/
theorem decode_rawLiteral_runsOut {r : BitReader} {rest : List Bit} (dict : Nat) (hbits : r.bits = false :: rest)
    (h : rest.length < 8) : (decode (.token none dict) r).RunsOut r := by
  obtain ⟨hread, hrest⟩ := BitReader.nextBit_cons hbits
  refine Read.RunsOut.bind (Read.RunsOut.bind_of_ok (n := 1) hread (by simp [hbits]) ?_)
  exact (BitReader.nextBits_runsOut (r := r.bump) (by rwa [hrest])).bind

/-- The bits of the terminator after its control bit (R69): the code of symbol 15, then its 8 extra bits. -/
def endBits : List Bit := List.replicate 7 false ++ List.replicate 8 true

/-- Of the length codes only symbol 15's begins the terminator's bits (R69, R72). -/
theorem codeBits_prefix_endBits : ∀ s : Fin 16, codeBits lenLens s.val <+: endBits → s = 15 := by
  decide +kernel

/-- The terminator's length code, cut off in its code or in its extra bits, runs out (R123). -/
theorem decodeLen_runsOut_of_end {r : BitReader} {n : Nat} (hn : n < 15) (hbits : r.bits = endBits.take n) :
    (decodeLen r).RunsOut r := by
  have hlen : r.bits.length = n := by
    rw [hbits, List.length_take]
    exact Nat.min_eq_left (Nat.le_of_lt hn)
  have hcomplete : Huffman.kraft lenLens = .complete := by decide
  have hreads := ReadsSpellings.huffDecode .length lenLens_lt (by rw [hcomplete]; decide) r
  by_cases hcode : ∃ s r', huffDecode .length lenLens r = .ok s r'
  · obtain ⟨s, r', hread⟩ := hcode
    obtain ⟨_, ⟨⟨hs, -⟩, rfl⟩, hnext, rfl⟩ := (hreads s r').1 hread
    obtain rfl : s = 15 := congrArg Fin.val
      (codeBits_prefix_endBits ⟨s, hs⟩ (hnext.trans (hbits ▸ List.take_prefix n endBits)))
    refine Read.RunsOut.bind_of_ok hread hnext.length_le (BitReader.nextBits_runsOut ?_).bind
    have hextra : lenExtra (Fin.ofNat 16 15) = 8 := rfl
    rw [BitReader.advance_bits, List.length_drop, hlen, codeBits_length, hextra]
    have h7 : lenLens.getD 15 0 = 7 := by decide
    omega
  · exact (huffDecode_runsOut .length lenLens_lt hcomplete fun s r' hread => hcode ⟨s, r', hread⟩).bind

/-- A terminator cut off anywhere in its 16 bits runs out (R123). -/
theorem decode_end_runsOut {r : BitReader} {n : Nat} (lits : Option (List Nat)) (dict : Nat) (hn : n < 16)
    (hbits : r.bits = (true :: endBits).take n) : (decode (.token lits dict) r).RunsOut r := by
  cases n with
  | zero => exact (BitReader.nextBit_runsOut hbits).bind.bind
  | succ n =>
    obtain ⟨hread, hrest⟩ := BitReader.nextBit_cons hbits
    refine Read.RunsOut.bind (Read.RunsOut.bind_of_ok (n := 1) hread (by simp [hbits]) ?_)
    exact (decodeLen_runsOut_of_end (r := r.bump) (Nat.lt_of_succ_lt_succ hn) hrest).bind

end Sys2Proof

/-! SUPPORT. The engine's step: what it dispatches, where it stops, what a token and its fields do, and the tables. -/

namespace Sys2Proof.Machine

open Sys2Proof.Claims

variable {s t : State}

/-! ## Dispatch and its stops (R104, R105, R112) -/

theorem stepItem_of_decoded {c : Ctx} {i : Instr} {r : BitReader} (hexp : s.expects = .ctx c)
    (hd : decode c s.reader = .ok i r) : stepItem s = exec i s := by
  simp [stepItem, hexp, hd]

theorem exec_of_stop {f : Fault} (h : s.expects = .stop f) (i : Instr) : exec i s = .fault f := by
  rw [exec_eq_runOp, runOp_eq_runWhen, runWhen, h]

theorem stepItem_of_stop {f : Fault} (h : s.expects = .stop f) : stepItem s = .fault f := by
  rw [stepItem, h]

theorem exec_of_unfit {i : Instr} {c : Ctx} (hexp : s.expects = .ctx c) (hfits : opFits c i.op = false) :
    exec i s = .fault .notDispatched := by
  rw [exec_eq_runOp, runOp_eq_runWhen, runWhen, hexp]
  simp [hfits]

theorem State.expects_done (h : s.phase = .done) : s.expects = .stop .runDone := by simp [State.expects, h]

theorem State.expects_fault (h : s.phase = .fault) : s.expects = .stop .runFaulted := by simp [State.expects, h]

/-- Outside phase `LITTAB` a step is one item (R105). -/
theorem step_of_phase_ne_littab (h : s.phase ≠ .littab) : step s = stepItem s :=
  step_of_not_atTable (by simp [State.atTable, h])

theorem step_of_token (h : s.phase = .token) : step s = stepItem s := step_of_phase_ne_littab (by simp [h])

/-- Where the sequencer has no next thing to dispatch, neither a step nor an instruction runs. -/
theorem stops_of_expects {f : Fault} (hphase : s.phase ≠ .littab) (h : s.expects = .stop f) :
    step s = .fault f ∧ ∀ i, exec i s = .fault f :=
  ⟨(step_of_phase_ne_littab hphase).trans (stepItem_of_stop h), exec_of_stop h⟩

theorem decode_of_decodeOp_ok {c : Ctx} {op : Op} {r r' : BitReader} (h : decodeOp c r = .ok op r') :
    decode c r = .ok (Instr.ofOp op) r' := by
  rw [decode, h, Read.bind_ok]

theorem decode_of_decodeOp_bad {c : Ctx} {k : ErrKind} {info : Info} {r r' : BitReader}
    (h : decodeOp c r = .bad k info r') : decode c r = .bad k info r' := by
  rw [decode, h, Read.bind_bad]

/-- An item that decodes has the decoded operation's effect on the state that has read it (R106). -/
theorem stepItem_of_decodeOp_ok {c : Ctx} {op : Op} {r : BitReader} (hexp : s.expects = .ctx c)
    (hd : decodeOp c s.reader = .ok op r) : stepItem s = opEffect op c { s with reader := r } := by
  obtain ⟨hfits, rfl⟩ := decodeOp_ok_of_shaped (State.atCtx_of_expects hexp).tableShaped hd
  have hop := op_ofOp hfits
  rw [stepItem_of_ok hexp (decode_of_decodeOp_ok hd) (by rwa [hop]), hop]
  rfl

/-- An item that does not decode raises the decoder's fault on the state that has read up to it (R126, R130). -/
theorem stepItem_of_decodeOp_bad {c : Ctx} {k : ErrKind} {info : Info} {r : BitReader} (hexp : s.expects = .ctx c)
    (hd : decodeOp c s.reader = .bad k info r) : stepItem s = .next ({ s with reader := r }.raise k info) :=
  stepItem_of_bad hexp (decode_of_decodeOp_bad hd)

/-- An item whose decoding runs out of input consumes every bit left and raises `UnexpectedEndOfInput` (R79, R130). -/
theorem stepItem_of_runsOut {c : Ctx} (hexp : s.expects = .ctx c) (h : (decode c s.reader).RunsOut s.reader) :
    stepItem s = .next ((s.advance s.reader.bits.length).raise .unexpectedEndOfInput
      (.atBit (s.inBits + s.reader.bits.length))) :=
  stepItem_of_bad hexp h

/-! ## There is no refusal (R104) -/

theorem copyBack_ne_refused (distance length : Nat) (s : State) (q : Refusal) :
    s.copyBack distance length ≠ .refused q := by
  rcases State.copyBack_cases distance length s with ⟨-, hr⟩ | ⟨-, ⟨_, -, hr⟩ | ⟨-, hr⟩⟩ <;> rw [hr] <;> nofun

theorem closeTable_ne_refused (s : State) (q : Refusal) : s.closeTable ≠ .refused q := by
  rcases s.closeTable_cases with ⟨-, hr⟩ | ⟨-, hr⟩ | ⟨-, ⟨-, hr⟩ | ⟨_, -, -, hr⟩ | ⟨_, -, -, hr⟩⟩ <;>
    rw [hr] <;> nofun

/-- Each operation's effect is a next state or one of the model's own faults. -/
theorem opEffect_ne_refused (op : Op) (c : Ctx) (s : State) (q : Refusal) : opEffect op c s ≠ .refused q := by
  cases op with
  | hdr | littabFixed | litRaw | litCoded | endOfStream | len | lit => nofun
  | ltp => exact closeTable_ne_refused _ q
  | matchRef => exact copyBack_ne_refused _ _ s q
  | dist t y =>
    cases c with
    | distCode => exact copyBack_ne_refused _ _ _ q
    | header | fixedTable | tableUnit | token | litCode | lenCode => nofun

theorem stepItem_ne_refused (s : State) (q : Refusal) : stepItem s ≠ .refused q := by
  cases hexp : s.expects with
  | stop f => rw [stepItem_of_stop hexp]; nofun
  | ctx c =>
    cases hd : decodeOp c s.reader with
    | ok op r => rw [stepItem_of_decodeOp_ok hexp hd]; exact opEffect_ne_refused op c _ q
    | bad k info r => rw [stepItem_of_decodeOp_bad hexp hd]; nofun

theorem tableLoop_ne_refused (n : Nat) (s : State) (q : Refusal) : tableLoop n s ≠ .refused q := by
  induction n generalizing s with
  | zero => nofun
  | succ n ih =>
    rw [tableLoop]
    cases hitem : stepItem s with
    | fault f => nofun
    | refused q' => exact absurd hitem (stepItem_ne_refused s q')
    | next u =>
      dsimp only
      split
      · exact ih u
      · nofun

theorem step_ne_refused (s : State) (q : Refusal) : step s ≠ .refused q := by
  by_cases htable : s.atTable = true
  · rw [step_of_atTable htable]; exact tableLoop_ne_refused 256 _ q
  · rw [step_of_not_atTable (Bool.eq_false_iff.2 htable)]; exact stepItem_ne_refused s q

/-! ## The statements about dispatch -/

/-- Settles O13: off the start of a transmitted table a step is one item, and an item runs what is decoded. -/
theorem stepRunsDecodedInstruction : Obligations.StepRunsDecodedInstruction := by
  intro s
  exact ⟨fun htable c i r hexp hd => (step_of_not_atTable htable).trans (stepItem_of_decoded hexp hd),
    step_of_atTable⟩

/-- Settles O16: in the two terminal phases the sequencer has nothing to dispatch. -/
theorem terminalPhasesHaveNoStep : Obligations.TerminalPhasesHaveNoStep := by
  intro s
  exact ⟨fun h => stops_of_expects (by simp [h]) (State.expects_done h),
    fun h => stops_of_expects (by simp [h]) (State.expects_fault h)⟩

/-- Settles O49: an instruction first asks whether its operation fits the context. -/
theorem undispatchedInstructionStops : Obligations.UndispatchedInstructionStops := by
  intro i s c hexp hfits
  exact exec_of_unfit hexp hfits

/-- Settles O17: the invariant supplies every cell a step reads, terminal phases stop, and no effect is a refusal. -/
theorem stepIsTotal : Obligations.StepIsTotal := by
  refine ⟨fun s hs hrun => hs.step_total hrun, fun s hend t h => ?_, step_ne_refused⟩
  obtain ⟨hdone, hfault⟩ := terminalPhasesHaveNoStep s
  rcases hend with hphase | hphase
  · rw [(hdone hphase).1] at h
    cases h
  · rw [(hfault hphase).1] at h
    cases h

/-- Settles O20: an item from a boundary ends at one, and the loop of a table has rounds enough to end the table. -/
theorem stepEndsAtBoundary : Obligations.StepEndsAtBoundary := by
  intro s t hs h
  exact (State.step_leadsTo hs h).boundary

end Sys2Proof.Machine

/-! SUPPORT. Where steps lead (R103), tokens all or nothing (R122), operations cut off by the end of the input, and a
token against its fields (log 6). -/

namespace Sys2Proof.Machine

open Sys2Proof.Claims

variable {s t u : State}

/-! ## What an item has decoded and done -/

/-- An item that answered has read an operation that fits and had its effect, or has raised the decoder's fault. -/
theorem stepItem_next_decodeOp {c : Ctx} (hexp : s.expects = .ctx c) (h : stepItem s = .next t) :
    (∃ op r, decodeOp c s.reader = .ok op r ∧ opFits c op = true ∧ opEffect op c { s with reader := r } = .next t) ∨
    (∃ k info r, decodeOp c s.reader = .bad k info r ∧ t = { s with reader := r }.raise k info) := by
  cases hd : decodeOp c s.reader with
  | ok op r =>
    rw [stepItem_of_decodeOp_ok hexp hd] at h
    have hfits := (decodeOp_ok_of_shaped (State.atCtx_of_expects hexp).tableShaped hd).1
    exact .inl ⟨op, r, rfl, hfits, h⟩
  | bad k info r =>
    rw [stepItem_of_decodeOp_bad hexp hd] at h
    cases h
    exact .inr ⟨k, info, r, rfl, rfl⟩

/-- Only the terminator is named by the row `END`. -/
theorem ofOp_eq_endOfStream_iff {c : Ctx} {op : Op} (h : opFits c op = true) :
    Instr.ofOp op = .endOfStream ↔ op = .endOfStream := by
  refine ⟨fun heq => ?_, by rintro rfl; rfl⟩
  rw [← op_ofOp h, heq]
  rfl

/-! ## Tokens all or nothing (R103, R122) -/

/-- A token that is read whole has either raised a fault and emitted nothing, or emitted all its bytes; the terminator
then ends the run and any other token goes on to the next. `u` is the state past its bits. -/
theorem opEffect_token_next {lits : Option (List Nat)} {dict : Nat} {op : Op}
    (hfits : opFits (.token lits dict) op = true) (hphase : u.phase = .token)
    (heff : opEffect op (.token lits dict) u = .next t) :
    (t.phase = .fault ∧ t.out = u.out ∧ t.win = u.win) ∨
    (t.phase = (if op = .endOfStream then .done else .token) ∧ t.produced = u.produced + emittedCount op) := by
  rcases opFits_token_cases hfits with ⟨v, rfl, -⟩ | ⟨lens, v, rfl, -⟩ | ⟨sym, x, d, y, rfl⟩ | rfl
  · cases heff
    exact .inr ⟨hphase, State.emit_produced v u⟩
  · cases heff
    exact .inr ⟨hphase, State.emit_produced v u⟩
  · rcases State.copyBack_next_frame heff with ⟨-, rfl⟩ | ⟨-, heq, hlen, -⟩
    · exact .inl ⟨rfl, rfl, rfl⟩
    · exact .inr ⟨by rw [heq]; exact hphase, hlen⟩
  · cases heff
    exact .inr ⟨rfl, rfl⟩

/-- Settles O30: a token that is not read whole raises a fault, and one that is read whole is all or nothing. -/
theorem tokensAllOrNothing : Obligations.TokensAllOrNothing := by
  intro s t _ hphase hboundary h
  rw [step_of_token hphase] at h
  obtain ⟨c, hexp, -⟩ := stepItem_next h
  obtain ⟨lits, dict, rfl⟩ := (State.atCtx_of_expects hexp).of_token_boundary hboundary hphase
  rcases stepItem_next_decodeOp hexp h with ⟨op, r, hd, hfits, heff⟩ | ⟨k, info, r, hd, rfl⟩
  · have hdecode := decode_of_decodeOp_ok hd
    rcases opEffect_token_next (u := { s with reader := r }) hfits hphase heff with
      ⟨hfault, hout, hwin⟩ | ⟨hnext, hproduced⟩
    · refine ⟨fun _ => ⟨hout, hwin, congrArg List.length hout, _, hexp, ?_⟩, fun hok => absurd hfault hok⟩
      rw [hdecode]
      exact (opEffect_extends heff).reader
    · refine ⟨fun hfault => ?_, fun _ => ⟨_, _, r, hexp, hdecode, by rw [op_ofOp hfits]; exact hproduced⟩⟩
      rw [hfault] at hnext
      split at hnext <;> cases hnext
  · refine ⟨fun _ => ⟨rfl, rfl, rfl, _, hexp, ?_⟩, fun hok => absurd rfl hok⟩
    rw [decode_of_decodeOp_bad hd]
    rfl

/-! ## The transitions of the sequencer (R103) -/

theorem State.ended_iff : s.ended = true ↔ s.phase = .done ∨ s.phase = .fault := by
  simp [State.ended, State.halted]

theorem headerEffect_next (L D : Byte) (s : State) :
    ((headerEffect L D s).phase = .token ∧ (headerEffect L D s).litCoded = false) ∨
    ((headerEffect L D s).phase = .littab ∧ (headerEffect L D s).litCoded = true) ∨
    (headerEffect L D s).phase = .fault := by
  unfold headerEffect
  split
  case isTrue =>
    by_cases hL : L = 1
    · exact .inr (.inl ⟨if_pos hL, decide_eq_true hL⟩)
    · exact .inl ⟨if_neg hL, decide_eq_false hL⟩
  case isFalse => exact .inr (.inr rfl)

/-- A unit of a table does not end the stream (R111). -/
theorem stepItem_of_unit_ne_done (hfield : s.field = .unit) (h : stepItem s = .next t) : t.phase ≠ .done := by
  obtain ⟨c, hexp, ⟨i, r, -, hfits, heff⟩ | ⟨k, info, r, -, rfl⟩⟩ := stepItem_next h
  case inr => nofun
  have hc := State.atCtx_of_expects hexp
  obtain rfl := hc.eq_tableUnit hfield
  obtain ⟨l, n, hop⟩ := opFits_tableUnit.1 hfits
  rw [hop] at heff
  rcases State.closeTable_next heff with ⟨-, rfl⟩ | ⟨info, rfl⟩ | ⟨lens, -, -, rfl⟩
  · simp [hc.1]
  · nofun
  · nofun

/-- A transmitted table leads to a token or to a fault (R103, R111). -/
theorem step_of_table_next (htable : s.atTable = true) (h : step s = .next t) :
    t.phase = .token ∨ t.phase = .fault := by
  obtain ⟨-, hend⟩ := State.step_of_table htable h
  rw [step_of_atTable htable] at h
  have hdone : s.openTable.phase ≠ .done → t.phase ≠ .done :=
    tableLoop_induction (R := fun s t => s.phase ≠ .done → t.phase ≠ .done) (fun _ h => h)
      (fun _ _ _ h h' hs => h' (h hs)) (fun _ _ hfield h _ => stepItem_of_unit_ne_done hfield h) rfl h
  obtain ⟨hphase, -⟩ := State.atTable_eq_true_iff.1 htable
  rcases hend with hend | ⟨htoken, -⟩
  · exact .inr ((State.ended_iff.1 hend).resolve_left (hdone (by simp [hphase])))
  · exact .inl htoken

/-- Settles O21: a transmitted table is followed by tokens, and an item by what its operation leads to; only a token
read whole as `END` leads to `DONE`. -/
theorem phaseTransitions : Obligations.PhaseTransitions := by
  intro s t _ hboundary h
  by_cases htable : s.atTable = true
  · obtain ⟨hphase, -⟩ := State.atTable_eq_true_iff.1 htable
    rcases step_of_table_next htable h with htoken | hfault
    · exact .inr (.inr (.inl ⟨hphase, htoken⟩))
    · exact .inr (.inr (.inr (.inr ⟨.inr (.inl hphase), hfault⟩)))
  rw [step_of_not_atTable (Bool.eq_false_iff.2 htable)] at h
  obtain ⟨c, hexp, -⟩ := stepItem_next h
  have hc := State.atCtx_of_expects hexp
  have hrun : s.Running := by
    rcases hc.of_boundary hboundary with rfl | rfl | ⟨lits, dict, rfl⟩
    · exact .inl hc.1
    · exact .inr (.inl hc.1)
    · exact .inr (.inr hc.of_token.1)
  rcases stepItem_next_decodeOp hexp h with ⟨op, r, hd, hfits, heff⟩ | ⟨k, info, r, -, rfl⟩
  case inr => exact .inr (.inr (.inr (.inr ⟨hrun, rfl⟩)))
  rcases hc.of_boundary hboundary with rfl | rfl | ⟨lits, dict, rfl⟩
  · obtain ⟨L, D, rfl⟩ := opFits_header.1 hfits
    cases heff
    rcases headerEffect_next L D { s with reader := r } with hraw | hcoded | hfault
    · exact .inl ⟨hc.1, hraw⟩
    · exact .inr (.inl ⟨hc.1, hcoded⟩)
    · exact .inr (.inr (.inr (.inr ⟨hrun, hfault⟩)))
  · obtain rfl := opFits_fixedTable.1 hfits
    cases heff
    exact .inr (.inr (.inl ⟨hc.1, rfl⟩))
  · have hphase := hc.of_token.1
    rcases opEffect_token_next (u := { s with reader := r }) hfits hphase heff with ⟨hfault, -⟩ | ⟨hnext, -⟩
    · exact .inr (.inr (.inr (.inr ⟨hrun, hfault⟩)))
    · refine .inr (.inr (.inr (.inl ⟨hphase, _, _, r, hexp, decode_of_decodeOp_ok hd, ?_⟩)))
      rw [ne_eq, ofOp_eq_endOfStream_iff hfits]
      by_cases hop : op = .endOfStream
      · exact .inr ⟨hop, hnext.trans (if_pos hop)⟩
      · exact .inl ⟨hop, hnext.trans (if_neg hop)⟩

/-! ## Headers and tokens run, and cut off by the end of the input (R107, R113, R123) -/

theorem State.expects_hostReset (src : List Byte) (s : State) : (s.hostReset src).expects = .ctx .header :=
  State.expects_header rfl rfl

/-- At the start of an input of whole bytes, the position after `n` of them. -/
theorem advance_bytes (src : List Byte) (n : Nat) : (⟨src, 0, 0⟩ : BitReader).advance (8 * n) = ⟨src, n, 0⟩ :=
  BitReader.eq_of_inBits (BitReader.advance_src ..)
    ((BitReader.advance_inBits ..).trans (Nat.zero_add (8 * n)))

/-- The two bytes of a header are what the first step decodes (R60, R107). -/
theorem decodeOp_header_bytes (L D : Byte) (rest : List Byte) :
    decodeOp .header ⟨L :: D :: rest, 0, 0⟩ = .ok (.hdr L D) ⟨L :: D :: rest, 2, 0⟩ := by
  have hbits : (⟨L :: D :: rest, 0, 0⟩ : BitReader).bits =
      encodeOp .header (.hdr L D) ++ BitReader.streamBits rest :=
    (List.append_assoc ..).symm
  refine (ReadsSpellings.decodeOp (c := .header) rfl _ _ _).2 ⟨_, ⟨rfl, rfl⟩, ⟨_, hbits.symm⟩, ?_⟩
  rw [encodeOp_length]
  exact (advance_bytes (L :: D :: rest) 2).symm

/-- Settles O31: the check is the header's effect, which comes after both bytes have been read. -/
theorem shortHeaderIsEndOfInput : Obligations.ShortHeaderIsEndOfInput := by
  refine ⟨fun s src hshort => ?_, fun s L D rest hL => ?_⟩
  · have hlen : (s.hostReset src).reader.bits.length = 8 * src.length := by
      rw [BitReader.bits_length]
      rfl
    have hitem := stepItem_of_runsOut (s.expects_hostReset src) (decode_header_runsOut (by rw [hlen]; omega))
    rw [hlen] at hitem
    rw [step_of_phase_ne_littab (by simp), hitem, State.advance, State.hostReset_reader, advance_bytes]
    simp [State.inBits, BitReader.inBits]
  · have hd := decodeOp_header_bytes L D rest
    have hillegal : headerLegal L D = false := by
      rw [← Bool.not_eq_true, State.headerLegal_iff]
      omega
    rw [step_of_phase_ne_littab (by simp), stepItem_of_decodeOp_ok (s.expects_hostReset _) hd, opEffect,
      headerEffect, hillegal]
    rfl

/-- Settles O38: where literals are raw every byte fits, and its 9 bits are read before it is emitted. -/
theorem rawLiteralEmits : Obligations.RawLiteralEmits := by
  intro s hphase hfield hraw
  have hexp := State.expects_rawToken hphase hfield hraw
  have heffect : ∀ (c : Byte) (n : Nat), opEffect (.litRaw c) (.token none s.dict.toNat) (s.advance n) =
      .next { s with
        reader := s.reader.advance n, out := s.out ++ [c], win := s.win.write (s.out.length % 4096) c } :=
    fun _ _ => rfl
  refine ⟨fun c => (exec_of_fits rfl hexp rfl).trans (heffect c 9), fun rest hbits hshort => ?_⟩
  rw [step_of_token hphase, stepItem_of_runsOut hexp (decode_rawLiteral_runsOut _ hbits hshort),
    hbits, List.length_cons, Nat.add_comm rest.length 1, Nat.add_assoc]

/-- Settles O42: the terminator fits at every token, and its 16 bits are read before the run is done. -/
theorem endFinishesTheStream : Obligations.EndFinishesTheStream := by
  intro s hphase hfield htable
  obtain ⟨lits, hexp⟩ := State.expects_token hphase hfield htable
  have heffect : ∀ n, opEffect .endOfStream (.token lits s.dict.toNat) (s.advance n) =
      .next { s with reader := s.reader.advance n, phase := .done, field := .none } := fun _ => rfl
  refine ⟨(exec_of_fits rfl hexp (by cases lits <;> rfl)).trans (heffect 16), fun n hn hbits => ?_⟩
  have hlen : s.reader.bits.length = n := by
    rw [hbits, List.length_take]
    exact Nat.min_eq_left (Nat.le_of_lt hn)
  rw [step_of_token hphase, stepItem_of_runsOut hexp (decode_end_runsOut lits _ hn hbits), hlen]

/-! ## A token against its fields (log 6) -/

theorem stepThroughMatch_of_dist {length : Nat} (h : step s = .next t) (hfield : t.field = .dist length) :
    stepThroughMatch s = step t := by
  simp [stepThroughMatch, h, hfield]

theorem stepThroughMatch_of_boundary (h : step s = .next t) (hfield : t.field = .none) :
    stepThroughMatch s = .next t := by
  simp [stepThroughMatch, h, hfield]

/-- The match path with its length code read is what that length leads to (R117). -/
theorem decodeMatch_of_length {dict : Nat} {p : Fin 16 × Nat} {r r' : BitReader} (h : decodeLen r = .ok p r') :
    (matchLength p.1 p.2 = endLength → decodeMatch dict r = .ok .endOfStream r') ∧
    (matchLength p.1 p.2 ≠ endLength → decodeMatch dict r =
      (decodeDist (distExtra (matchLength p.1 p.2) dict) r').bind fun q r => .ok (.matchRef p.1 p.2 q.1 q.2) r) := by
  rw [decodeMatch, h, Read.bind_ok]
  exact ⟨fun hend => if_pos hend, fun hmatch => if_neg hmatch⟩

theorem decodeOp_token_of_true {lits : Option (List Nat)} {dict : Nat} {r r' : BitReader}
    (h : r.nextBit = .ok true r') : decodeOp (.token lits dict) r = decodeMatch dict r' := by
  rw [decodeOp, h]
  rfl

theorem decodeOp_codedToken_of_false {lens : List Nat} {dict : Nat} {r r' : BitReader} (h : r.nextBit = .ok false r') :
    decodeOp (.token (some lens) dict) r = (decodeLit lens r').bind fun v r => .ok (.litCoded v) r := by
  rw [decodeOp, h]
  rfl

/-- A step inside phase `TOKEN` has the effect of what it decodes. -/
theorem step_of_decodeOp_ok {c : Ctx} {op : Op} {r : BitReader} (hexp : s.expects = .ctx c) (hphase : s.phase = .token)
    (hd : decodeOp c s.reader = .ok op r) : step s = opEffect op c { s with reader := r } :=
  (step_of_token hphase).trans (stepItem_of_decodeOp_ok hexp hd)

theorem step_of_decodeOp_bad {c : Ctx} {k : ErrKind} {info : Info} {r : BitReader} (hexp : s.expects = .ctx c)
    (hphase : s.phase = .token) (hd : decodeOp c s.reader = .bad k info r) :
    step s = .next ({ s with reader := r }.raise k info) :=
  (step_of_token hphase).trans (stepItem_of_decodeOp_bad hexp hd)

/-- Inside phase `TOKEN` two states that differ in the position and in the model's own field take the same step when
they read the same and what they read has the same effect; a fault met while reading leaves the field unused (log 6). -/
theorem step_eq_of_same_read {α : Type} {m : Read α} {k k' : α → Op} {c c' : Ctx} {r₀ : BitReader} {f : Field}
    (hphase : s.phase = .token) (hexp : s.expects = .ctx c)
    (hexp' : ({ s with reader := r₀, field := f } : State).expects = .ctx c')
    (hd : decodeOp c s.reader = m.bind fun a r => .ok (k a) r) (hd' : decodeOp c' r₀ = m.bind fun a r => .ok (k' a) r)
    (heffect : ∀ a r, opEffect (k a) c { s with reader := r } = opEffect (k' a) c' { s with reader := r, field := f }) :
    step s = step { s with reader := r₀, field := f } := by
  cases m with
  | ok a r => rw [step_of_decodeOp_ok hexp hphase hd, step_of_decodeOp_ok hexp' hphase hd', heffect]
  | bad k info r => rw [step_of_decodeOp_bad hexp hphase hd, step_of_decodeOp_bad hexp' hphase hd']; rfl

/-- The literal code of a coded literal, run after its control bit (R114, log 6). -/
theorem step_eq_step_litCode {lens : List Nat} {r : BitReader} (hphase : s.phase = .token) (hfield : s.field = .none)
    (hcoded : s.litCoded = true) (hlens : s.litLens = some lens) (hbit : s.reader.nextBit = .ok false r) :
    step s = step { s with reader := r, field := .lit } := by
  refine step_eq_of_same_read hphase (State.expects_codedToken hphase hfield hcoded hlens)
    (State.expects_litCode (s := { s with reader := r, field := .lit }) hphase rfl hlens)
    (decodeOp_codedToken_of_false hbit) rfl fun v r' => ?_
  have hsame := setField_none_eq (s := ({ s with reader := r' } : State).emit v) hfield
  rw [opEffect, ← hsame]
  rfl

/-- The distance code of a match whose length has been read (R118 to R120, log 6). -/
theorem step_eq_step_distCode {lits : Option (List Nat)} {sym : Fin 16} {x : Nat} {r : BitReader}
    (hphase : s.phase = .token) (hfield : s.field = .none) (hexp : s.expects = .ctx (.token lits s.dict.toNat))
    (hd : decodeOp (.token lits s.dict.toNat) s.reader =
      (decodeDist (distExtra (matchLength sym x) s.dict.toNat) r).bind fun q r => .ok (.matchRef sym x q.1 q.2) r) :
    step s = step { s with reader := r, field := .dist (matchLength sym x) } := by
  refine step_eq_of_same_read hphase hexp
    (State.expects_distCode (s := { s with reader := r, field := .dist (matchLength sym x) }) hphase rfl) hd
    (k' := fun q => .dist q.1 q.2) (by rw [decodeOp]) fun q r' => ?_
  have hsame := setField_none_eq (s := { s with reader := r' }) hfield
  rw [opEffect, ← hsame]
  rfl

/-- The length code and the distance code of a token with control bit 1, run one by one (R115 to R120, log 6). -/
theorem step_eq_stepThroughMatch {lits : Option (List Nat)} {r : BitReader} (hphase : s.phase = .token)
    (hfield : s.field = .none) (hexp : s.expects = .ctx (.token lits s.dict.toNat))
    (hbit : s.reader.nextBit = .ok true r) : step s = stepThroughMatch { s with reader := r, field := .len } := by
  have htoken := decodeOp_token_of_true (lits := lits) (dict := s.dict.toNat) hbit
  have hexpLen := State.expects_lenCode (s := { s with reader := r, field := .len }) hphase rfl
  have hlenOp : decodeOp .lenCode r = (decodeLen r).bind fun p r => .ok (.len p.1 p.2) r := rfl
  cases hlen : decodeLen r with
  | bad k info r₁ =>
    rw [hlen] at hlenOp
    rw [decodeMatch, hlen] at htoken
    rw [step_of_decodeOp_bad hexp hphase htoken]
    exact (stepThroughMatch_of_boundary (step_of_decodeOp_bad hexpLen hphase hlenOp) rfl).symm
  | ok p r₁ =>
    rw [hlen] at hlenOp
    obtain ⟨hterminator, hmatch⟩ := decodeMatch_of_length (dict := s.dict.toNat) hlen
    have hlenStep := step_of_decodeOp_ok hexpLen hphase hlenOp
    rw [opEffect] at hlenStep
    by_cases hend : matchLength p.1 p.2 = endLength
    · rw [if_pos hend] at hlenStep
      rw [step_of_decodeOp_ok hexp hphase (htoken.trans (hterminator hend)), stepThroughMatch_of_boundary hlenStep rfl]
      rfl
    · rw [if_neg hend] at hlenStep
      rw [stepThroughMatch_of_dist hlenStep rfl]
      exact step_eq_step_distCode hphase hfield hexp (htoken.trans (hmatch hend))

/-- Settles O56: the decoder of a token is its control bit and then its fields' decoders, and the effects agree. -/
theorem fieldStepsRefineToken : Obligations.FieldStepsRefineToken := by
  intro s b r hphase hfield hbit htable
  refine ⟨?_, ?_⟩
  · rintro rfl
    obtain ⟨lits, hexp⟩ := State.expects_token hphase hfield htable
    exact step_eq_stepThroughMatch hphase hfield hexp hbit
  · rintro rfl hcoded
    obtain ⟨lens, hlens⟩ := htable hcoded
    exact step_eq_step_litCode hphase hfield hcoded hlens hbit

end Sys2Proof.Machine

/-! SUPPORT. The literal table loaded in one step (R110, R111), and the frame of the operations that store nothing in
the window. -/

namespace Sys2Proof.Machine

open Sys2Proof.Claims

variable {s t u : State}

/-! ## The fixed table (R110) -/

/-- Cells numbered from `a` on by their place in a list hold the list's elements. -/
theorem Cells.read_zipIdx {α β : Type} (f : α → β) (xs : List α) (a i : Nat) :
    Cells.read ((xs.zipIdx a).map fun p => (p.2, f p.1)) (a + i) = xs[i]?.map f := by
  induction xs generalizing a i with
  | nil => rfl
  | cons x xs ih =>
    rw [List.zipIdx_cons, List.map_cons, Cells.read]
    cases i with
    | zero => simp
    | succ i =>
      rw [if_neg (by dsimp only; omega), ← Nat.add_assoc, Nat.add_right_comm, ih]
      rfl

/-- What was loaded is what each cell holds (R110). -/
theorem State.read_loadLitLen {lens : List Nat} (s : State) {v : Nat} (hv : v < lens.length) :
    (s.loadLitLen lens).litLen.read v = some (BitVec.ofNat 4 (lens.getD v 0)) := by
  have hread := Cells.read_zipIdx (BitVec.ofNat 4) lens 0 v
  rw [Nat.zero_add, List.getElem?_eq_getElem hv] at hread
  rw [List.getD_eq_getElem _ _ hv]
  exact hread

/-- Settles O34: the one operation of the phase fits, takes no bits and loads the 256 lengths. -/
theorem fixedTableIsLoaded : Obligations.FixedTableIsLoaded := by
  intro s hphase hfield hsrc
  obtain ⟨hlen, hlt, -⟩ := literalTableWf_iff.1 State.literalTableWf_litLensFixed
  have hexec : exec .littabFixed s = .next { s.loadLitLen litLensFixed with phase := .token } :=
    exec_of_fits rfl (State.expects_fixedTable hphase hfield hsrc) rfl
  exact ⟨_, hexec, fun v hv => s.read_loadLitLen (hlen.symm ▸ hv), s.litLens_loadLitLen hlen hlt⟩

/-! ## A transmitted table (R111) -/

@[simp] theorem unitLens_append (units : List (BitVec 4 × BitVec 4)) (l r : BitVec 4) :
    unitLens (units ++ [(l, r)]) = unitLens units ++ List.replicate (r.toNat + 1) l.toNat := by
  simp [unitLens]

@[simp] theorem unitBits_append (units : List (BitVec 4 × BitVec 4)) (l r : BitVec 4) :
    unitBits (units ++ [(l, r)]) = unitBits units ++ encode .tableUnit (.ltp l r) := by
  rw [unitBits, List.flatMap_append, List.flatMap_singleton]
  rfl

theorem encode_ltp_length (l r : BitVec 4) : (encode .tableUnit (.ltp l r)).length = 8 := encodeOp_length ..

theorem unitBits_length (units : List (BitVec 4 × BitVec 4)) : (unitBits units).length = 8 * units.length := by
  induction units using List.reverseRecOn with
  | nil => rfl
  | append_singleton units unit ih =>
    rw [unitBits_append, List.length_append, ih, encode_ltp_length, List.length_append, List.length_singleton]
    omega

/-- Every unit assigns at least one length (R65). -/
theorem length_le_unitLens_length (units : List (BitVec 4 × BitVec 4)) : units.length ≤ (unitLens units).length := by
  induction units using List.reverseRecOn with
  | nil => exact Nat.zero_le _
  | append_singleton units unit ih =>
    rw [unitLens_append, List.length_append, List.length_append, List.length_replicate, List.length_singleton]
    omega

/-- Inside a transmitted table the item is the unit whose bits are next (R65, R111). -/
theorem stepItem_of_unitBits {l r : BitVec 4} {rest : List Bit} (hphase : s.phase = .littab) (hfield : s.field = .unit)
    (hbits : s.reader.bits = encode .tableUnit (.ltp l r) ++ rest) : stepItem s = exec (.ltp l r) s := by
  have hwf : (Instr.ltp l r).wf .tableUnit = true := Bool.and_eq_true_iff.2 ⟨beq_self_eq_true (Instr.ltp l r), rfl⟩
  exact stepItem_of_decoded (State.expects_tableUnit hphase hfield)
    (decodeInvertsEncode .tableUnit (.ltp l r) s.reader rest rfl hwf hbits).1

theorem tableLoop_of_unit (h : stepItem s = .next t) (hfield : t.field = .unit) (n : Nat) :
    tableLoop (n + 1) s = tableLoop n t := by
  simp [tableLoop, h, hfield]

theorem tableLoop_of_boundary (h : stepItem s = .next t) (hfield : t.field = .none) (n : Nat) :
    tableLoop (n + 1) s = .next t := by
  simp [tableLoop, h, hfield]

/-- `t` is the state inside the transmitted table that starts at `s`, after these units (R111). -/
structure InTable (s : State) (units : List (BitVec 4 × BitVec 4)) (t : State) : Prop where
  eq : t = { s with
    reader := s.reader.advance (8 * units.length), litLen := t.litLen, ltN := (unitLens units).length, field := .unit }
  cells : t.litLen.map Prod.fst = List.range (unitLens units).length
  lens : (t.litLen.map fun c => c.2.toNat) = unitLens units

namespace InTable

variable {units : List (BitVec 4 × BitVec 4)}

theorem start (hempty : s.litLen = []) : InTable s [] s.openTable where
  eq := rfl
  cells := by simp [hempty, unitLens]
  lens := by simp [hempty, unitLens]

theorem ltN (h : InTable s units t) : t.ltN = (unitLens units).length := by rw [h.eq]

theorem field (h : InTable s units t) : t.field = .unit := by rw [h.eq]

theorem phase (h : InTable s units t) : t.phase = s.phase := by rw [h.eq]

theorem reader (h : InTable s units t) : t.reader = s.reader.advance (8 * units.length) := by rw [h.eq]

theorem err (h : InTable s units t) : t.err = s.err := by rw [h.eq]

theorem info (h : InTable s units t) : t.info = s.info := by rw [h.eq]

theorem litCoded (h : InTable s units t) : t.litCoded = s.litCoded := by rw [h.eq]

theorem dict (h : InTable s units t) : t.dict = s.dict := by rw [h.eq]

theorem win (h : InTable s units t) : t.win = s.win := by rw [h.eq]

theorem out (h : InTable s units t) : t.out = s.out := by rw [h.eq]

/-- Past the units read, what follows them is next. -/
theorem bits (h : InTable s units t) {rest : List Bit} (hbits : s.reader.bits = unitBits units ++ rest) :
    t.reader.bits = rest := by
  rw [h.reader, BitReader.advance_bits, hbits, ← unitBits_length, List.drop_left]

/-- The state a unit short of the table's end leaves (R111). -/
theorem afterUnit (h : InTable s units t) {l r : BitVec 4} (hshort : (unitLens (units ++ [(l, r)])).length < 256) :
    InTable s (units ++ [(l, r)]) { t with
      reader := t.reader.advance 8
      litLen := (t.assignLens l (r.toNat + 1)).litLen
      ltN := t.ltN + (r.toNat + 1) } := by
  rw [unitLens_append, List.length_append, List.length_replicate, ← h.ltN] at hshort
  have hcells : t.litLen.map Prod.fst = List.range t.ltN := h.ltN ▸ h.cells
  refine ⟨?_, ?_, ?_⟩
  · rw [h.eq, ← BitReader.advance_add]
    simp [Nat.mul_add]
  · rw [unitLens_append, List.length_append, List.length_replicate, ← h.ltN]
    exact State.assignLens_cells hcells hshort.le
  · rw [unitLens_append, ← h.lens]
    exact State.assignLens_litLen hcells hshort.le

/-- The loop of a table reads the units that leave it short of 256 symbols (R111). -/
theorem exists_of_units (htable : s.atTable = true) (hempty : s.litLen = []) {rest : List Bit}
    (hbits : s.reader.bits = unitBits units ++ rest) (hshort : (unitLens units).length < 256) (n : Nat) :
    ∃ t, InTable s units t ∧ tableLoop (n + units.length) s.openTable = tableLoop n t := by
  induction units using List.reverseRecOn generalizing n rest with
  | nil => exact ⟨s.openTable, start hempty, rfl⟩
  | append_singleton units unit ih =>
    obtain ⟨l, r⟩ := unit
    have hless : (unitLens units).length + (r.toNat + 1) < 256 := by
      simpa using hshort
    rw [unitBits_append, List.append_assoc] at hbits
    obtain ⟨t, ht, hloop⟩ := ih hbits (by omega) (n + 1)
    have hphase : t.phase = .littab := ht.phase.trans (State.atTable_eq_true_iff.1 htable).1
    have hitem := (stepItem_of_unitBits hphase ht.field (ht.bits hbits)).trans ((exec_ltp l r hphase ht.field).trans
      (if_pos (by rw [← ht.ltN] at hless; exact hless)))
    refine ⟨_, ht.afterUnit hshort, ?_⟩
    rw [List.length_append, List.length_singleton, Nat.add_comm units.length 1, ← Nat.add_assoc, hloop]
    exact tableLoop_of_unit hitem ht.field n

/-- A step at a transmitted table goes on from any place short of the table's end that its units lead to; at least one
round of the loop is left there. -/
theorem exists_of_step (htable : s.atTable = true) (hempty : s.litLen = []) {rest : List Bit}
    (hbits : s.reader.bits = unitBits units ++ rest) (hshort : (unitLens units).length < 256) :
    ∃ n t, InTable s units t ∧ step s = tableLoop (n + 1) t := by
  have hrounds := length_le_unitLens_length units
  obtain ⟨t, ht, hloop⟩ := exists_of_units htable hempty hbits hshort (255 - units.length + 1)
  have hall : 255 - units.length + 1 + units.length = 256 := by omega
  rw [hall] at hloop
  exact ⟨_, t, ht, (step_of_atTable htable).trans hloop⟩

end InTable

/-- What the last unit of a table answers is what the whole step answers. -/
theorem step_of_lastUnit {units : List (BitVec 4 × BitVec 4)} {l r : BitVec 4} {rest : List Bit}
    (htable : s.atTable = true) (hempty : s.litLen = []) (hbits : s.reader.bits = unitBits (units ++ [(l, r)]) ++ rest)
    (hshort : (unitLens units).length < 256) :
    ∃ t, InTable s units t ∧ t.phase = .littab ∧
      ∀ u, exec (.ltp l r) t = .next u → u.field = .none → step s = .next u := by
  rw [unitBits_append, List.append_assoc] at hbits
  obtain ⟨n, t, ht, hstep⟩ := InTable.exists_of_step htable hempty hbits hshort
  have hphase : t.phase = .littab := ht.phase.trans (State.atTable_eq_true_iff.1 htable).1
  refine ⟨t, ht, hphase, fun u hu hfield => hstep.trans (tableLoop_of_boundary ?_ hfield n)⟩
  exact (stepItem_of_unitBits hphase ht.field (ht.bits hbits)).trans hu

/-- The position after a table's last unit. -/
theorem InTable.advance_lastUnit {units : List (BitVec 4 × BitVec 4)} (h : InTable s units t)
    (unit : BitVec 4 × BitVec 4) : t.reader.advance 8 = s.reader.advance (8 * (units ++ [unit]).length) := by
  rw [h.reader, ← BitReader.advance_add, List.length_append, List.length_singleton, Nat.mul_add]

/-- Units that assign some lengths have a last one. -/
theorem exists_lastUnit {units : List (BitVec 4 × BitVec 4)} (h : 256 ≤ (unitLens units).length) :
    ∃ init l r, units = init ++ [(l, r)] := by
  rcases List.eq_nil_or_concat' units with rfl | ⟨init, ⟨l, r⟩, rfl⟩
  · simp [unitLens] at h
  · exact ⟨init, l, r, rfl⟩

/-- Settles O37: the loop reads on to the last unit, whose end closes the table, or to the end of the input. -/
theorem transmittedTableIsLoaded : Obligations.TransmittedTableIsLoaded := by
  intro s units rest htable hempty hbits
  refine ⟨fun hfull => ?_, fun hover hlast => ?_, fun hshort hrest => ?_⟩
  · obtain ⟨init, l, r, rfl⟩ := exists_lastUnit hfull.ge
    have hcount : (unitLens init).length + (r.toNat + 1) = 256 := by simpa using hfull
    obtain ⟨t, ht, hphase, hstep⟩ := step_of_lastUnit htable hempty hbits (by omega)
    rw [← ht.ltN] at hcount
    obtain ⟨hclose, -⟩ := lastTableUnitCloses l r t hphase ht.field (by omega) (ht.ltN ▸ ht.cells)
    obtain ⟨cells, lens, hlens, hload, hexec⟩ := hclose hcount
    rw [ht.lens, ← unitLens_append] at hlens
    rw [ht.advance_lastUnit (l, r)] at hexec
    subst hlens
    split at hexec
    case isTrue hk =>
      exact ⟨_, hstep _ hexec rfl, hload, rfl, rfl, ht.win, ht.out,
        ht.litCoded, ht.dict, by rw [if_pos hk]; exact ⟨rfl, rfl, rfl⟩⟩
    case isFalse hk =>
      exact ⟨_, hstep _ hexec rfl, hload, rfl, rfl, ht.win, ht.out,
        ht.litCoded, ht.dict, by
          rw [if_neg hk]
          exact ⟨rfl, ht.err, ht.info⟩⟩
  · obtain ⟨init, l, r, rfl⟩ := exists_lastUnit hover.le
    rw [List.dropLast_concat] at hlast
    have hcount : (unitLens (init ++ [(l, r)])).length = (unitLens init).length + (r.toNat + 1) := by simp
    obtain ⟨t, ht, hphase, hstep⟩ := step_of_lastUnit htable hempty hbits hlast
    rw [← ht.ltN] at hcount
    obtain ⟨-, hclose⟩ := lastTableUnitCloses l r t hphase ht.field (ht.ltN ▸ hlast) (ht.ltN ▸ ht.cells)
    obtain ⟨cells, hexec⟩ := hclose (hcount ▸ hover)
    rw [ht.advance_lastUnit (l, r), ← hcount] at hexec
    exact ⟨_, hstep _ hexec rfl, rfl, rfl, rfl, rfl, rfl, ht.win, ht.out⟩
  · obtain ⟨n, t, ht, hstep⟩ := InTable.exists_of_step htable hempty hbits hshort
    have hphase : t.phase = .littab := ht.phase.trans (State.atTable_eq_true_iff.1 htable).1
    have hnext := ht.bits hbits
    have hitem := stepItem_of_runsOut (State.expects_tableUnit hphase ht.field)
      (decode_tableUnit_runsOut (by rwa [hnext]))
    have hposition : t.inBits = s.inBits + 8 * units.length := by
      rw [State.inBits, ht.reader, BitReader.advance_inBits]
      rfl
    rw [hnext, State.advance, ht.reader, ← BitReader.advance_add, hposition] at hitem
    exact ⟨_, hstep.trans (tableLoop_of_boundary hitem rfl n), rfl, rfl, rfl, ht.ltN, rfl, ht.win,
      ht.out⟩

/-! ## The frame of the operations that store nothing in the window (R108, R110, R111, R116, R123) -/

/-- `t` is where an operation that stores nothing in the window has taken `s`: the output, the window, the input and the
parameter stay. -/
structure StoresNothing (s t : State) : Prop where
  out : t.out = s.out
  src : t.reader.src = s.reader.src
  litSrc : t.litSrc = s.litSrc
  win : t.win = s.win

theorem StoresNothing.memRead (h : StoresNothing s t) (a : Nat) : t.memRead a = s.memRead a := by
  rw [State.memRead, h.win]
  rfl

/-- An instruction that answered had its operation's effect past its bits, whose number is kept apart from its value so
that a long move of the reader stays folded. -/
theorem exec_next_of_op {i : Instr} {op : Op} (hop : i.op = op) (h : exec i s = .next t) :
    ∃ c n, s.AtCtx c ∧ opFits c op = true ∧ n = opWidth c op ∧ opEffect op c (s.advance n) = .next t := by
  obtain ⟨c, hexp, hfits, heff⟩ := exec_next h
  rw [hop] at hfits heff
  exact ⟨c, _, State.atCtx_of_expects hexp, hfits, rfl, heff⟩

/-- A header changes the header's registers, or raises its fault (R108). -/
theorem headerEffect_frame (L D : Byte) (s : State) :
    StoresNothing s (headerEffect L D s) ∧ (headerEffect L D s).litLen = s.litLen ∧
      (headerEffect L D s).ltN = s.ltN ∧ (s.field = .none → (headerEffect L D s).field = .none) := by
  unfold headerEffect
  split
  · exact ⟨⟨rfl, rfl, rfl, rfl⟩, rfl, rfl, id⟩
  · exact ⟨⟨rfl, rfl, rfl, rfl⟩, rfl, rfl, fun _ => rfl⟩

theorem closeTable_frame (h : s.closeTable = .next t) :
    StoresNothing s t ∧ t.litCoded = s.litCoded ∧ t.dict = s.dict := by
  rcases State.closeTable_next h with ⟨-, rfl⟩ | ⟨_, rfl⟩ | ⟨_, -, -, rfl⟩ <;>
    exact ⟨⟨rfl, rfl, rfl, rfl⟩, rfl, rfl⟩

theorem exec_hdr_frame {i : Instr} {L D : Byte} (hop : i.op = .hdr L D) (h : exec i s = .next t) :
    StoresNothing s t ∧ t.litLen = s.litLen ∧ t.ltN = s.ltN ∧ t.field = .none := by
  obtain ⟨c, n, hc, hfits, -, heff⟩ := exec_next_of_op hop h
  obtain ⟨-, hfield⟩ := hc.opPlace hfits
  cases heff
  obtain ⟨⟨hout, hsrc, hlitSrc, hwin⟩, hlen, hltN, hnone⟩ := headerEffect_frame L D (s.advance n)
  exact ⟨⟨hout, hsrc.trans (BitReader.advance_src ..), hlitSrc, hwin⟩, hlen, hltN, hnone hfield⟩

theorem exec_littabFixed_next {i : Instr} (hop : i.op = .littabFixed) (h : exec i s = .next t) :
    t = { s.loadLitLen litLensFixed with phase := .token } := by
  obtain ⟨c, n, -, -, rfl, heff⟩ := exec_next_of_op hop h
  cases heff
  rfl

theorem exec_ltp_frame {i : Instr} {l r : BitVec 4} (hop : i.op = .ltp l r) (h : exec i s = .next t) :
    StoresNothing s t ∧ t.litCoded = s.litCoded ∧ t.dict = s.dict := by
  obtain ⟨c, n, -, -, -, heff⟩ := exec_next_of_op hop h
  obtain ⟨⟨hout, hsrc, hlitSrc, hwin⟩, hcoded, hdict⟩ := closeTable_frame heff
  exact ⟨⟨by simpa using hout, by simpa using hsrc, by simpa using hlitSrc, by simpa using hwin⟩, by simpa using hcoded,
    by simpa using hdict⟩

/-- The terminator and a length code change the position, the phase and the model's own field (R116, R123). -/
theorem exec_end_or_len_next {i : Instr} (hop : i.op = .endOfStream ∨ ∃ sym x, i.op = .len sym x)
    (h : exec i s = .next t) : ∃ n p f, t = { s.advance n with phase := p, field := f } := by
  rcases hop with hop | ⟨sym, x, hop⟩
  · obtain ⟨c, n, -, -, -, heff⟩ := exec_next_of_op hop h
    cases heff
    exact ⟨_, _, _, rfl⟩
  · obtain ⟨c, n, -, -, -, heff⟩ := exec_next_of_op hop h
    cases heff
    split
    · exact ⟨_, _, _, rfl⟩
    · exact ⟨_, _, _, rfl⟩

/-- Every operation named by the frame stores nothing. -/
theorem exec_storesNothing {i : Instr} (hop : (∃ L D, i.op = .hdr L D) ∨ i.op = .littabFixed ∨
      (∃ l r, i.op = .ltp l r) ∨ i.op = .endOfStream ∨ ∃ sym x, i.op = .len sym x)
    (h : exec i s = .next t) : StoresNothing s t := by
  rcases hop with ⟨L, D, hop⟩ | hop | ⟨l, r, hop⟩ | hop
  · exact (exec_hdr_frame hop h).1
  · obtain rfl := exec_littabFixed_next hop h
    exact ⟨rfl, rfl, rfl, rfl⟩
  · exact (exec_ltp_frame hop h).1
  · obtain ⟨n, p, f, rfl⟩ := exec_end_or_len_next hop h
    exact ⟨rfl, BitReader.advance_src .., rfl, rfl⟩

/-- Settles O48: each operation's own frame, and the one they share. -/
theorem nonStoringFrame : Obligations.NonStoringFrame := by
  intro i s t h
  refine ⟨fun L D hop => (exec_hdr_frame hop h).2, fun hop => ?_, fun l r hop => (exec_ltp_frame hop h).2,
    fun hop => ?_, fun hop => ?_⟩
  · obtain rfl := exec_littabFixed_next hop h
    exact ⟨rfl, rfl, rfl, rfl, rfl, rfl, rfl⟩
  · obtain ⟨n, p, f, rfl⟩ := exec_end_or_len_next hop h
    exact ⟨rfl, rfl, rfl, rfl, rfl, rfl⟩
  · have hframe := exec_storesNothing hop h
    exact ⟨hframe.out, hframe.src, hframe.litSrc, hframe.memRead⟩

end Sys2Proof.Machine

/-! SUPPORT. Reads that answer or run out of input, and the one other fault a read can meet: a literal code that no
symbol has (R79, R80, R86). -/

namespace Sys2Proof

/-! ## Reads that answer or run out -/

/-- The read from `r` has answered within the input, or has run out of it (R79, R80). -/
def Read.AnswersOrRunsOut {α : Type} (r : BitReader) (m : Read α) : Prop :=
  (∃ a r', m = .ok a r' ∧ r.Reaches r') ∨ m.RunsOut r

namespace Read.AnswersOrRunsOut

variable {α β : Type} {r r' : BitReader}

theorem ok (a : α) (r : BitReader) : (Read.ok a r).AnswersOrRunsOut r := .inl ⟨a, r, rfl, .refl r⟩

/-- What answers or runs out further on in the input does so from here. -/
theorem of_reaches {m : Read α} (hr : r.Reaches r') (h : m.AnswersOrRunsOut r') : m.AnswersOrRunsOut r := by
  rcases h with ⟨a, r'', hok, hr'⟩ | hout
  · exact .inl ⟨a, r'', hok, hr.trans hr'⟩
  · obtain ⟨n, hn, rfl⟩ := hr
    exact .inr (hout.of_advance hn)

theorem bind {m : Read α} {f : α → BitReader → Read β} (hm : m.AnswersOrRunsOut r)
    (hf : ∀ a r', (f a r').AnswersOrRunsOut r') : (m.bind f).AnswersOrRunsOut r := by
  rcases hm with ⟨a, r', rfl, hr⟩ | hout
  · exact (hf a r').of_reaches hr
  · exact .inr hout.bind

/-- A read that answers or runs out meets no fault but `UnexpectedEndOfInput`, at the end of the input (R129). -/
theorem of_bad {k : ErrKind} {info : Info} (h : (Read.bad k info r' : Read α).AnswersOrRunsOut r) :
    k = .unexpectedEndOfInput ∧ r' = r.advance r.bits.length := by
  rcases h with ⟨_, _, hok, -⟩ | hout
  · cases hok
  · cases hout
    exact ⟨rfl, rfl⟩

end Read.AnswersOrRunsOut

theorem BitReader.nextBit_answersOrRunsOut (r : BitReader) : r.nextBit.AnswersOrRunsOut r := by
  rcases r.nextBit_cases with ⟨b, rest, hbits, hok⟩ | ⟨hbits, -⟩
  · exact .inl ⟨b, _, hok, 1, by simp [hbits], rfl⟩
  · exact .inr (nextBit_runsOut hbits)

theorem BitReader.nextBits_answersOrRunsOut (n : Nat) (r : BitReader) : (nextBits n r).AnswersOrRunsOut r := by
  rcases Nat.lt_or_ge r.bits.length n with hshort | hlong
  · exact .inr (nextBits_runsOut hshort)
  · obtain ⟨v, hok, -⟩ := nextBits_of_le hlong
    exact .inl ⟨v, _, hok, n, hlong, rfl⟩

/-- With every bit left consumed the position is the input's end (R78). -/
theorem BitReader.advance_all_inBits {r : BitReader} (h : r.inBits ≤ 8 * r.src.length) :
    (r.advance r.bits.length).inBits = 8 * r.src.length := by
  rw [advance_inBits, bits_length]
  omega

/-- The loop of R86 answers, runs out, or has read all `n` bits that it may and found no code. -/
theorem huffLoop_answersOrRunsOut_or_noCode (table : TableId) (lens : List Nat) (n L code first index : Nat)
    (r : BitReader) :
    (huffLoop table lens n L code first index r).AnswersOrRunsOut r ∨
    huffLoop table lens n L code first index r =
      .bad .invalidCode (.noCode table (Huffman.maxlen lens)) (r.advance n) := by
  induction n generalizing L code first index r with
  | zero => exact .inr rfl
  | succ n ih =>
    rw [huffLoop]
    rcases r.nextBit_cases with ⟨b, rest, hbits, hok⟩ | ⟨hbits, -⟩
    · have hbump : r.Reaches r.bump := ⟨1, by simp [hbits], rfl⟩
      rw [hok, Read.bind_ok]
      dsimp only
      split
      case isTrue => exact .inl ((Read.AnswersOrRunsOut.ok _ r.bump).of_reaches hbump)
      case isFalse => exact (ih (r := r.bump) ..).imp_left (·.of_reaches hbump)
    · exact .inl (.inr (BitReader.nextBit_runsOut hbits).bind)

/-- `HuffDecode` answers, runs out, or, on a table that is not complete, has read as many bits as the longest code and
found none (R86, R93). -/
theorem huffDecode_answersOrRunsOut_or_noCode (table : TableId) {lens : List Nat} (hlens : ∀ l ∈ lens, l < 16)
    (r : BitReader) :
    (huffDecode table lens r).AnswersOrRunsOut r ∨
    (Huffman.kraft lens ≠ .complete ∧ huffDecode table lens r =
      .bad .invalidCode (.noCode table (Huffman.maxlen lens)) (r.advance (Huffman.maxlen lens))) := by
  refine (huffLoop_answersOrRunsOut_or_noCode table lens _ 1 0 0 0 r).imp_right fun hbad => ⟨fun hk => ?_, hbad⟩
  rcases completeTableNeverInvalidCode table lens r hlens hk with ⟨s, r', h⟩ | ⟨i, r', h⟩
  · cases h.symm.trans hbad
  · cases h.symm.trans hbad

theorem huffDecode_answersOrRunsOut (table : TableId) {lens : List Nat} (hlens : ∀ l ∈ lens, l < 16)
    (hk : Huffman.kraft lens = .complete) (r : BitReader) : (huffDecode table lens r).AnswersOrRunsOut r :=
  (huffDecode_answersOrRunsOut_or_noCode table hlens r).resolve_right fun hbad => hbad.1 hk

theorem decodeLen_answersOrRunsOut (r : BitReader) : (decodeLen r).AnswersOrRunsOut r :=
  (huffDecode_answersOrRunsOut .length lenLens_lt (by decide) r).bind fun _ r' =>
    (r'.nextBits_answersOrRunsOut _).bind fun _ r'' => .ok _ r''

theorem decodeDist_answersOrRunsOut (e : Nat) (r : BitReader) : (decodeDist e r).AnswersOrRunsOut r :=
  (huffDecode_answersOrRunsOut .distance distLens_lt (by decide) r).bind fun _ r' =>
    (r'.nextBits_answersOrRunsOut _).bind fun _ r'' => .ok _ r''

theorem decodeMatch_answersOrRunsOut (dict : Nat) (r : BitReader) : (decodeMatch dict r).AnswersOrRunsOut r := by
  refine (decodeLen_answersOrRunsOut r).bind fun p r' => ?_
  split
  · exact .ok _ r'
  · exact (decodeDist_answersOrRunsOut _ r').bind fun _ r'' => .ok _ r''

theorem decodeOp_header_answersOrRunsOut (r : BitReader) : (decodeOp .header r).AnswersOrRunsOut r :=
  (r.nextBits_answersOrRunsOut 8).bind fun _ r' => (r'.nextBits_answersOrRunsOut 8).bind fun _ r'' => .ok _ r''

theorem decodeOp_tableUnit_answersOrRunsOut (r : BitReader) : (decodeOp .tableUnit r).AnswersOrRunsOut r :=
  (r.nextBits_answersOrRunsOut 8).bind fun _ r' => .ok _ r'

/-! ## The faults met inside a token (R128) -/

/-- `m` is a coded literal whose control bit and `maxlen` bits have been read, and no symbol of the table, which is not
complete, has a code among them (R86, R114). -/
structure MissesLiteralCode (lens : List Nat) (r : BitReader) (m : Read Op) : Prop where
  notComplete : Huffman.kraft lens ≠ .complete
  controlBit : r.nextBit.value? = some false
  bad : ∃ info, m = .bad .invalidCode info (r.advance (1 + Huffman.maxlen lens))

/-- A token answers or runs out, unless it is a coded literal that meets `InvalidCode` (R112 to R118). -/
theorem decodeOp_token_answersOrRunsOut_or_misses (lits : Option (List Nat)) (dict : Nat) (r : BitReader)
    (hlits : ∀ lens, lits = some lens → ∀ l ∈ lens, l < 16) :
    (decodeOp (.token lits dict) r).AnswersOrRunsOut r ∨
    ∃ lens, lits = some lens ∧ MissesLiteralCode lens r (decodeOp (.token lits dict) r) := by
  rcases r.nextBit_cases with ⟨b, rest, hbits, hbit⟩ | ⟨hbits, -⟩
  case inr => exact .inl (.inr (BitReader.nextBit_runsOut hbits).bind)
  have hbump : r.Reaches r.bump := ⟨1, by simp [hbits], rfl⟩
  cases b with
  | true =>
    rw [Machine.decodeOp_token_of_true hbit]
    exact .inl ((decodeMatch_answersOrRunsOut dict r.bump).of_reaches hbump)
  | false =>
    cases lits with
    | none =>
      rw [decodeOp, hbit]
      exact .inl (((r.bump.nextBits_answersOrRunsOut 8).bind fun _ r' => .ok _ r').of_reaches hbump)
    | some lens =>
      rw [Machine.decodeOp_codedToken_of_false hbit]
      rcases huffDecode_answersOrRunsOut_or_noCode .literal (hlits lens rfl) r.bump with hread | ⟨hk, hbad⟩
      · exact .inl (((hread.bind fun _ r' => .ok _ r').bind fun _ r' => .ok _ r').of_reaches hbump)
      · refine .inr ⟨lens, rfl, hk, by rw [hbit]; rfl, .noCode .literal (Huffman.maxlen lens), ?_⟩
        rw [decodeLit, hbad, BitReader.advance_add]
        rfl

/-- A match is read after a control bit 1 (R112). -/
theorem nextBit_of_decodeOp_matchRef {lits : Option (List Nat)} {dict : Nat} {sym : Fin 16} {x : Nat} {d : Fin 64}
    {y : Nat} {r r' : BitReader} (hc : (Ctx.token lits dict).wf = true)
    (h : decodeOp (.token lits dict) r = .ok (.matchRef sym x d y) r') : r.nextBit.value? = some true := by
  obtain ⟨bs, ⟨-, rfl⟩, ⟨rest, hbits⟩, -⟩ := (ReadsSpellings.decodeOp hc r _ r').1 h
  rw [(BitReader.nextBit_cons hbits.symm).1]
  rfl

end Sys2Proof

/-! SUPPORT. The faults a step can raise (R128), where each leaves the position (R129), and the fault kinds a run
reaches (R145). -/

namespace Sys2Proof.Machine

open Sys2Proof.Claims

namespace State

variable {s t : State}

/-! ## Faults of an item -/

/-- `UnexpectedEndOfInput` has been raised, with every bit of the input consumed (R129). -/
def OutOfInput (t : State) : Prop := t.err = .unexpectedEndOfInput ∧ t.inBits = 8 * t.reader.src.length

/-- An item whose decoding answers or runs out has run out, or has had its operation's effect. -/
theorem Inv.stepItem_outOfInput_or_effect (hs : s.Inv) {c : Ctx} (hexp : s.expects = .ctx c)
    (hread : (decodeOp c s.reader).AnswersOrRunsOut s.reader) (h : Machine.stepItem s = .next t) :
    t.OutOfInput ∨
    ∃ op r, decodeOp c s.reader = .ok op r ∧ opFits c op = true ∧
      Machine.opEffect op c { s with reader := r } = .next t := by
  rcases stepItem_next_decodeOp hexp h with heffect | ⟨k, info, r, hd, rfl⟩
  · exact .inr heffect
  · rw [hd] at hread
    obtain ⟨rfl, rfl⟩ := hread.of_bad
    refine .inl ⟨rfl, ?_⟩
    rw [inBits, raise_reader, BitReader.advance_all_inBits hs.position, BitReader.advance_src]

theorem headerEffect_faults {L D : Byte} (h : (headerEffect L D s).phase = .fault) :
    (headerEffect L D s).err = .invalidHeader := by
  unfold headerEffect at h ⊢
  split
  case isTrue hlegal =>
    rw [if_pos hlegal] at h
    dsimp only at h
    split at h <;> cases h
  case isFalse => rfl

/-- A header that faults has run out of input, or is illegal with both bytes read (R107, R108). -/
theorem Inv.header_faults (hs : s.Inv) (hphase : s.phase = .header) (hfield : s.field = .none)
    (h : step s = .next t) (hfault : t.phase = .fault) :
    t.OutOfInput ∨ (t.err = .invalidHeader ∧ t.inBits = 16) := by
  rw [step_of_phase_ne_littab (by simp [hphase])] at h
  refine (hs.stepItem_outOfInput_or_effect (expects_header hphase hfield) (decodeOp_header_answersOrRunsOut _)
    h).imp_right ?_
  rintro ⟨op, r, hd, hfits, heff⟩
  obtain ⟨L, D, rfl⟩ := opFits_header.1 hfits
  obtain ⟨-, hr⟩ := decodeOp_ok (c := .header) rfl hd
  obtain ⟨hstart, -⟩ := hs.beforeHeader hphase
  have hreader : t.reader = r := (opEffect_extends heff).reader
  cases heff
  refine ⟨headerEffect_faults hfault, ?_⟩
  rw [inBits] at hstart ⊢
  rw [hreader, hr, BitReader.advance_inBits, hstart]
  rfl

/-- `LITTAB_FIXED` reads nothing and cannot fault (R110). -/
theorem fixedTable_never_faults (hphase : s.phase = .littab) (hfield : s.field = .none) (hsrc : s.litSrc = .fixed)
    (h : step s = .next t) : t.phase ≠ .fault := by
  have htable : s.atTable = false := by simp [atTable, hsrc]
  rw [step_of_not_atTable htable, stepItem_of_decodeOp_ok (expects_fixedTable hphase hfield hsrc) rfl] at h
  cases h
  nofun

/-- If `s` has faulted, then because the input ended or the table is not accepted (R111). -/
def TableFaultsOnly (s : State) : Prop := s.phase = .fault → s.OutOfInput ∨ s.err = .invalidLiteralTable

/-- A unit of a transmitted table that faults has run out of input, or has closed a table that is not accepted
(R111). -/
theorem Inv.tableUnit_faults (hs : s.Inv) (hfield : s.field = .unit) (h : Machine.stepItem s = .next t) :
    t.TableFaultsOnly := by
  intro hfault
  obtain ⟨hphase, -⟩ := (fieldFits_of_unit hfield).1 hs.fieldFits
  refine (hs.stepItem_outOfInput_or_effect (expects_tableUnit hphase hfield) (decodeOp_tableUnit_answersOrRunsOut _)
    h).imp_right ?_
  rintro ⟨op, r, -, hfits, heff⟩
  obtain ⟨l, n, rfl⟩ := opFits_tableUnit.1 hfits
  rcases closeTable_next heff with ⟨-, rfl⟩ | ⟨info, rfl⟩ | ⟨lens, -, -, rfl⟩
  · simp [hphase] at hfault
  · rfl
  · cases hfault

/-- A transmitted table that faults has run out of input, or is not accepted (R111). -/
theorem Inv.table_faults (hs : s.Inv) (htable : s.atTable = true) (h : step s = .next t) : t.TableFaultsOnly := by
  rw [step_of_atTable htable] at h
  obtain ⟨hphase, -⟩ := atTable_eq_true_iff.1 htable
  have hkept := tableLoop_induction
    (R := fun s t => s.Inv ∧ s.TableFaultsOnly → t.Inv ∧ t.TableFaultsOnly) (fun _ h => h)
    (fun _ _ _ h h' hs => h' (h hs)) (fun _ _ hfield h hs => ⟨hs.1.stepItem h, hs.1.tableUnit_faults hfield h⟩) rfl h
  exact (hkept ⟨hs.openTable htable, fun hp => by simp [hphase] at hp⟩).2

/-! ## Faults of a token -/

/-- A `FIXED` engine's literal table is complete, so a table of a run that is not is a `STREAM` engine's (R93, R110). -/
theorem Inv.stream_of_not_complete (hs : s.Inv) (hphase : s.phase = .token) (hcoded : s.litCoded = true)
    {lens : List Nat} (hlens : s.litLens = some lens) (hk : Huffman.kraft lens ≠ .complete) : s.litSrc = .stream := by
  cases hsrc : s.litSrc with
  | stream => rfl
  | fixed =>
    obtain ⟨lens', hlens', -, hfixed⟩ := hs.tableLoaded hphase hcoded
    obtain ⟨-, -, -, hcomplete, -⟩ := fixedTablesComplete
    rw [hlens] at hlens'
    cases hlens'
    rw [hfixed hsrc] at hk
    exact absurd hcomplete hk

/-- A token that is read whole faults only as a match that reaches back beyond the output (R100, R119). -/
theorem opEffect_token_faults {u : State} {lits : Option (List Nat)} {dict : Nat} {op : Op}
    (hfits : opFits (.token lits dict) op = true) (hphase : u.phase = .token)
    (heff : opEffect op (.token lits dict) u = .next t) (hfault : t.phase = .fault) :
    t.err = .invalidDistance ∧ ∃ sym x d y, op = .matchRef sym x d y := by
  rcases opFits_token_cases hfits with ⟨v, rfl, -⟩ | ⟨lens, v, rfl, -⟩ | ⟨sym, x, d, y, rfl⟩ | rfl
  · cases heff
    simp [hphase] at hfault
  · cases heff
    simp [hphase] at hfault
  · rcases copyBack_next_frame heff with ⟨-, rfl⟩ | ⟨-, heq, -⟩
    · exact ⟨rfl, sym, x, d, y, rfl⟩
    · rw [heq] at hfault
      simp [hphase] at hfault
  · cases heff
    cases hfault

/-- The fault `InvalidCode` of a token: a coded literal that has read its control bit and `maxlen` bits of a table
that a `STREAM` engine was sent (R86, R114, R145). -/
structure CodeFault (s t : State) : Prop where
  controlBit : s.reader.nextBit.value? = some false
  coded : s.litCoded = true
  stream : s.litSrc = .stream
  err : t.err = .invalidCode
  position : ∀ lens, s.litLens = some lens → t.inBits = s.inBits + 1 + Huffman.maxlen lens

/-- A token that faults has run out of input, is a match beyond the output, or is a literal without a code (R128). -/
theorem Inv.token_faults (hs : s.Inv) (hphase : s.phase = .token) (hfield : s.field = .none) (h : step s = .next t)
    (hfault : t.phase = .fault) :
    t.OutOfInput ∨ (s.reader.nextBit.value? = some true ∧ t.err = .invalidDistance) ∨ CodeFault s t := by
  rw [step_of_token hphase] at h
  obtain ⟨c, hexp⟩ := hs.expects_of_token hphase
  have hc := atCtx_of_expects hexp
  obtain ⟨lits, dict, rfl⟩ := hc.of_token_boundary hfield hphase
  have hlits : ∀ lens, lits = some lens → s.litCoded = true ∧ s.litLens = some lens := by
    rintro lens rfl
    exact hc.2.2.2
  rcases decodeOp_token_answersOrRunsOut_or_misses lits dict s.reader
    (fun lens hl => (litLens_shape (hlits lens hl).2).2) with hread | ⟨lens, hl, hk, hbit, info, hbad⟩
  · refine (hs.stepItem_outOfInput_or_effect hexp hread h).imp_right ?_
    rintro ⟨op, r, hd, hfits, heff⟩
    obtain ⟨herr, sym, x, d, y, rfl⟩ := opEffect_token_faults (u := { s with reader := r }) hfits hphase heff hfault
    exact .inl ⟨nextBit_of_decodeOp_matchRef (hs.ctx_wf hc) hd, herr⟩
  · obtain ⟨hcoded, hlens⟩ := hlits lens hl
    rw [stepItem_of_decodeOp_bad hexp hbad] at h
    cases h
    refine .inr (.inr ⟨hbit, hcoded, hs.stream_of_not_complete hphase hcoded hlens hk, rfl, fun lens' hlens' => ?_⟩)
    rw [hlens] at hlens'
    cases hlens'
    rw [inBits, raise_reader, BitReader.advance_inBits, ← Nat.add_assoc]
    rfl

/-! ## Faults of a step (R128, R129) -/

/-- A fault that a step from the boundary `s` raises, by the operation at `s`, and the position it leaves. -/
inductive Raises (s t : State) : Prop
  | endOfInput (place : s.phase = .header ∨ (s.phase = .littab ∧ s.litSrc = .stream) ∨ s.phase = .token)
      (out : t.OutOfInput)
  | header (place : s.phase = .header) (err : t.err = .invalidHeader) (position : t.inBits = 16)
  | table (place : s.phase = .littab) (stream : s.litSrc = .stream) (err : t.err = .invalidLiteralTable)
  | distance (place : s.phase = .token) (controlBit : s.reader.nextBit.value? = some true)
      (err : t.err = .invalidDistance)
  | code (place : s.phase = .token) (fault : CodeFault s t)

theorem running_of_step (h : step s = .next t) : s.Running := by
  obtain ⟨-, hstop, -⟩ := stepIsTotal
  cases hphase : s.phase with
  | header => exact .inl hphase
  | littab => exact .inr (.inl hphase)
  | token => exact .inr (.inr hphase)
  | done => exact absurd h (hstop s (.inl hphase) t)
  | fault => exact absurd h (hstop s (.inr hphase) t)

theorem Inv.step_raises (hs : s.Inv) (hboundary : s.atBoundary) (h : step s = .next t) (hfault : t.phase = .fault) :
    Raises s t := by
  rcases running_of_step h with hphase | hphase | hphase
  · rcases hs.header_faults hphase hboundary h hfault with hout | ⟨herr, hposition⟩
    · exact .endOfInput (.inl hphase) hout
    · exact .header hphase herr hposition
  · cases hsrc : s.litSrc with
    | fixed => exact absurd hfault (fixedTable_never_faults hphase hboundary hsrc h)
    | stream =>
      rcases hs.table_faults (atTable_eq_true_iff.2 ⟨hphase, hboundary, hsrc⟩) h hfault with hout | herr
      · exact .endOfInput (.inr (.inl ⟨hphase, hsrc⟩)) hout
      · exact .table hphase hsrc herr
  · rcases hs.token_faults hphase hboundary h hfault with hout | ⟨hbit, herr⟩ | hcode
    · exact .endOfInput (.inr (.inr hphase)) hout
    · exact .distance hphase hbit herr
    · exact .code hphase hcode

/-- A fault in a token that was read whole leaves the position after the token's last bit (R122, R129). -/
theorem Inv.token_fault_reader (hs : s.Inv) (hphase : s.phase = .token) (hboundary : s.atBoundary)
    (h : step s = .next t) (hfault : t.phase = .fault) {c : Ctx} {i : Instr} {r : BitReader}
    (hexp : s.expects = .ctx c) (hd : decode c s.reader = .ok i r) : t.reader = r := by
  obtain ⟨-, -, -, c', hexp', hreader⟩ := (tokensAllOrNothing s t hs hphase hboundary h).1 hfault
  rw [hexp] at hexp'
  cases hexp'
  rw [hreader, hd]
  rfl

/-! ## Fault kinds along a run (R145) -/

/-- `err` of a `FIXED` engine holds no fault, or one of the three that need no transmitted table (R145). -/
def FixedErr (k : ErrKind) : Prop :=
  k = .none ∨ k = .invalidHeader ∨ k = .invalidDistance ∨ k = .unexpectedEndOfInput

theorem Raises.fixedErr (h : Raises s t) (hsrc : s.litSrc = .fixed) : FixedErr t.err := by
  cases h with
  | endOfInput _ out => exact .inr (.inr (.inr out.1))
  | header _ err _ => exact .inr (.inl err)
  | table _ stream _ => cases hsrc.symm.trans stream
  | distance _ _ err => exact .inr (.inr (.inl err))
  | code _ fault => cases hsrc.symm.trans fault.stream

/-- The states of a `FIXED` engine's run from reset, at the boundaries its steps lead to. -/
structure FixedRun (s : State) : Prop where
  inv : s.Inv
  boundary : s.atBoundary
  fixed : s.litSrc = .fixed
  err : FixedErr s.err

theorem FixedRun.hostReset (src : List Byte) (hsrc : s.litSrc = .fixed) : FixedRun (s.hostReset src) :=
  ⟨resetMeetsInv.2 src s, rfl, hsrc, .inl rfl⟩

theorem FixedRun.step (hs : FixedRun s) (h : Machine.step s = .next t) : FixedRun t := by
  obtain ⟨hinv, hboundary, hfixed, -⟩ := hs
  have ht := stepKeepsInv s t hinv h
  obtain ⟨-, -, hsrc⟩ := positionNeverMovesBack s t h
  refine ⟨ht, stepEndsAtBoundary s t hboundary h, hsrc.trans hfixed, ?_⟩
  by_cases hfault : t.phase = .fault
  · exact (hinv.step_raises hboundary h hfault).fixedErr hfixed
  · exact .inl (ht.err_eq_none hfault)

/-- What holds of a state and is kept by every step holds of every state its run reaches. -/
theorem run_induction {P : State → Prop} (hstep : ∀ s t, P s → Machine.step s = .next t → P t) {n : Nat} (hs : P s)
    (h : Sys2Proof.core.run n s = .next t) : P t := by
  induction n generalizing s with
  | zero => cases h; exact hs
  | succ n ih =>
    cases hnext : Machine.step s with
    | next u => exact ih (hstep s u hs hnext) (run_succ hnext n ▸ h)
    | fault f =>
      have hcore : Sys2Proof.core.step s = .fault f := hnext
      simp [Host.Core.run, hcore] at h
    | refused q => exact absurd hnext (step_ne_refused s q)

/-- On the engine with parameter `lt` some input leads from reset to a fault of this kind. -/
def RunReaches (lt : LitTableSource) (k : ErrKind) : Prop :=
  ∃ (s t : State) (src : List Byte) (n : Nat), s.litSrc = lt ∧
    Sys2Proof.core.run n (s.hostReset src) = .next t ∧ State.err t = k

/-- The engine with parameter `lt` after reset. -/
def resetWith (lt : LitTableSource) : State := { State.reset with litSrc := lt }

/-- The `err` that `n` steps from reset on this input leave; `none` when they do not all answer. -/
def errAfter (lt : LitTableSource) (src : List Byte) (n : Nat) : ErrKind :=
  match Sys2Proof.core.run n ((resetWith lt).hostReset src) with
  | .next t => State.err t
  | _ => .none

theorem RunReaches.of_errAfter {lt : LitTableSource} {k : ErrKind} (src : List Byte) (n : Nat) (hk : k ≠ .none)
    (h : errAfter lt src n = k) : RunReaches lt k := by
  unfold errAfter at h
  split at h
  case h_1 t hrun => exact ⟨resetWith lt, t, src, n, rfl, hrun, h⟩
  case h_2 => exact absurd h.symm hk

/-- An empty input has no header. -/
theorem reaches_unexpectedEndOfInput (lt : LitTableSource) : RunReaches lt .unexpectedEndOfInput :=
  .of_errAfter [] 1 nofun (by cases lt <;> decide +kernel)

/-- The dictionary byte 7. -/
theorem reaches_invalidHeader (lt : LitTableSource) : RunReaches lt .invalidHeader :=
  .of_errAfter [0x00, 0x07] 1 nofun (by cases lt <;> decide +kernel)

/-- A stream that begins with a match. -/
theorem reaches_invalidDistance (lt : LitTableSource) : RunReaches lt .invalidDistance :=
  .of_errAfter [0x00, 0x04, 0x3B] 2 nofun (by cases lt <;> decide +kernel)

/-- A coded-literal stream whose literal table is 16 units of this byte. -/
def tableStream (unit : Byte) (rest : List Byte) : List Byte := 0x01 :: 0x04 :: (List.replicate 16 unit ++ rest)

/-- A `STREAM` engine at the literal table of a stream with `dict` 4. -/
def atStreamTable (src : List Byte) : State :=
  { resetWith .stream with phase := .littab, litCoded := true, dict := 4, reader := ⟨src, 2, 0⟩ }

theorem step_tableStream_header (unit : Byte) (rest : List Byte) :
    Machine.step ((resetWith .stream).hostReset (tableStream unit rest)) =
      .next (atStreamTable (tableStream unit rest)) :=
  (step_of_phase_ne_littab (by simp)).trans
    (stepItem_of_decodeOp_ok (expects_hostReset ..) (decodeOp_header_bytes 0x01 0x04 _))

/-- The bits of 16 equal bytes are 16 equal units (R65). -/
theorem atStreamTable_bits (l r : BitVec 4) (rest : List Byte) :
    (atStreamTable (tableStream (r ++ l) rest)).reader.bits =
      unitBits (List.replicate 16 (l, r)) ++ BitReader.streamBits rest := by
  have hunit : ∀ l r : BitVec 4, BitReader.byteBits (r ++ l) = rawBits 4 l.toNat ++ rawBits 4 r.toNat := by
    decide +kernel
  have hbytes : ∀ n, BitReader.streamBits (List.replicate n (r ++ l) ++ rest) =
      unitBits (List.replicate n (l, r)) ++ BitReader.streamBits rest := by
    intro n
    induction n with
    | zero => rfl
    | succ n ih =>
      rw [List.replicate_succ, List.cons_append, BitReader.streamBits_cons, ih, hunit, ← List.append_assoc]
      rfl
  exact hbytes 16

theorem unitLens_replicate (l r : BitVec 4) (n : Nat) :
    unitLens (List.replicate n (l, r)) = List.replicate (n * (r.toNat + 1)) l.toNat := by
  induction n with
  | zero => rw [Nat.zero_mul]; rfl
  | succ n ih =>
    rw [List.replicate_succ', unitLens_append, ih, List.replicate_append_replicate, ← Nat.succ_mul]

/-- A table of 16 units that each give the code length `n` to 16 symbols is read in one step. -/
theorem step_uniformTable {l : BitVec 4} {n : Nat} (hn : l.toNat = n) (rest : List Byte) :
    ∃ t, Machine.step (atStreamTable (tableStream (15#4 ++ l) rest)) = .next t ∧
      t.litLens = some (List.replicate 256 n) ∧ t.litCoded = true ∧ t.reader.bits = BitReader.streamBits rest ∧
      (Huffman.kraft (List.replicate 256 n) = .over → t.err = .invalidLiteralTable) ∧
      (Huffman.kraft (List.replicate 256 n) ≠ .over → t.phase = .token) := by
  have hbits := atStreamTable_bits l 15 rest
  have hlens : unitLens (List.replicate 16 (l, 15)) = List.replicate 256 n := hn ▸ unitLens_replicate l 15 16
  obtain ⟨hload, -⟩ := transmittedTableIsLoaded _ _ _ rfl rfl hbits
  rw [hlens] at hload
  obtain ⟨t, h, hload, -, hreader, -, -, hcoded, -, hend⟩ := hload List.length_replicate
  refine ⟨t, h, hload, hcoded, ?_, fun hk => ?_, fun hk => ?_⟩
  · rw [hreader, BitReader.advance_bits, hbits, ← unitBits_length, List.drop_left]
  · rw [if_pos hk] at hend
    exact hend.2.1
  · rw [if_neg hk] at hend
    exact hend.1

/-- Three codes of 1 bit are one too many (R85). -/
theorem kraft_replicate_one {n : Nat} (h : 2 < n) : Huffman.kraft (List.replicate n 1) = .over := by
  rw [Huffman.kraft, Huffman.kraftFrom, Huffman.count, List.count_replicate_self, if_pos h]

theorem kraft_replicate_zero (n : Nat) : Huffman.kraft (List.replicate n 0) = .incomplete := by
  simp [Huffman.kraft, Huffman.kraftFrom, Huffman.count, List.count_replicate]

/-- A table that gives all 256 symbols a code of 1 bit. -/
theorem reaches_invalidLiteralTable : RunReaches .stream .invalidLiteralTable := by
  obtain ⟨t, h, -, -, -, hover, -⟩ := step_uniformTable (l := 1) (n := 1) rfl []
  exact ⟨resetWith .stream, t, _, 2, rfl,
    (run_succ (step_tableStream_header ..) 1).trans (run_succ h 0), hover (kraft_replicate_one (by decide))⟩

/-- Where no symbol has a code, a literal's control bit is all that is read of it (R86, R114). -/
theorem step_of_emptyTable {lens : List Nat} {r : BitReader} (hphase : s.phase = .token) (hfield : s.field = .none)
    (hcoded : s.litCoded = true) (hlens : s.litLens = some lens) (hzero : ∀ l ∈ lens, l = 0)
    (hbit : s.reader.nextBit = .ok false r) :
    Machine.step s = .next ({ s with reader := r }.raise .invalidCode (.noCode .literal 0)) := by
  refine step_of_decodeOp_bad (expects_codedToken hphase hfield hcoded hlens) hphase ?_
  rw [decodeOp_codedToken_of_false hbit, decodeLit, emptyTableIsInvalidCode .literal lens r hzero]
  rfl

/-- A table that gives no symbol a code, and then a literal. -/
theorem reaches_invalidCode : RunReaches .stream .invalidCode := by
  obtain ⟨t, h, hload, hcoded, hbits, -, htoken⟩ := step_uniformTable (l := 0) (n := 0) rfl [0x00]
  have hphase : t.phase = .token := htoken (by rw [kraft_replicate_zero]; nofun)
  have hfield : t.field = .none := stepEndsAtBoundary (atStreamTable _) t rfl h
  obtain ⟨hbit, -⟩ := BitReader.nextBit_cons (hbits : t.reader.bits = false :: List.replicate 7 false)
  have hcode := step_of_emptyTable hphase hfield hcoded hload (fun _ => List.eq_of_mem_replicate) hbit
  exact ⟨resetWith .stream, _, _, 3, rfl,
    (run_succ (step_tableStream_header ..) 2).trans ((run_succ h 1).trans (run_succ hcode 0)), rfl⟩

end State

/-! ## The statements about faults -/

open State

/-- Settles O15: off the start of a transmitted table a step is one item, which raises the decoder's fault. -/
theorem readFaultIsRaised : Obligations.ReadFaultIsRaised := by
  intro s c k info r htable hexp hd
  exact (step_of_not_atTable htable).trans (stepItem_of_bad hexp hd)

/-- Settles O27: every read answers, runs out or misses a literal code, and every effect that faults is a header's, a
table's or a match's. -/
theorem faultsOfEachOperation : Obligations.FaultsOfEachOperation := by
  intro s t hs hboundary h hfault
  cases hs.step_raises hboundary h hfault with
  | endOfInput place out =>
    obtain ⟨err, -⟩ := out
    rcases place with hphase | ⟨hphase, hsrc⟩ | hphase
    · exact .inl ⟨hphase, .inl err⟩
    · exact .inr (.inl ⟨hphase, hsrc, .inl err⟩)
    · exact .inr (.inr ⟨hphase, .inl err⟩)
  | header place err _ => exact .inl ⟨place, .inr err⟩
  | table place stream err => exact .inr (.inl ⟨place, stream, .inr err⟩)
  | distance place controlBit err => exact .inr (.inr ⟨place, .inr (.inl ⟨controlBit, err⟩)⟩)
  | code place fault =>
    exact .inr (.inr ⟨place, .inr (.inr ⟨fault.controlBit, fault.coded, fault.stream, fault.err⟩)⟩)

/-- Settles O29: each fault carries the position its read or its effect leaves. -/
theorem faultPositions : Obligations.FaultPositions := by
  intro s t hs hboundary h
  obtain ⟨-, hsrc, -⟩ := positionNeverMovesBack s t h
  by_cases hfault : t.phase = .fault
  case neg =>
    rw [(stepKeepsInv s t hs h).err_eq_none hfault]
    exact ⟨nofun, nofun, nofun, nofun⟩
  cases hs.step_raises hboundary h hfault with
  | endOfInput _ out =>
    obtain ⟨err, position⟩ := out
    rw [err, ← hsrc]
    exact ⟨fun _ => position, nofun, nofun, nofun⟩
  | header _ err position =>
    rw [err]
    exact ⟨nofun, fun _ => position, nofun, nofun⟩
  | table _ _ err =>
    rw [err]
    exact ⟨nofun, nofun, nofun, nofun⟩
  | distance place _ err =>
    rw [err]
    exact ⟨nofun, nofun, nofun, fun _ _ _ _ => hs.token_fault_reader place hboundary h hfault⟩
  | code _ fault =>
    rw [fault.err]
    exact ⟨nofun, nofun, fun _ => fault.position, nofun⟩

/-- Settles O28: every step of a `FIXED` engine raises one of the three faults or none, and each fault has an input that
reaches it. -/
theorem fixedReachesThreeFaults : Obligations.FixedReachesThreeFaults := by
  refine ⟨fun s t src n hsrc h => (run_induction (fun _ _ => FixedRun.step) (.hostReset src hsrc) h).err, ?_, ?_⟩
  · rintro k (rfl | rfl | rfl)
    · exact reaches_invalidHeader .fixed
    · exact reaches_invalidDistance .fixed
    · exact reaches_unexpectedEndOfInput .fixed
  · intro k hk
    cases k with
    | none => exact absurd rfl hk
    | invalidHeader => exact reaches_invalidHeader .stream
    | invalidLiteralTable => exact reaches_invalidLiteralTable
    | invalidCode => exact reaches_invalidCode
    | invalidDistance => exact reaches_invalidDistance .stream
    | unexpectedEndOfInput => exact reaches_unexpectedEndOfInput .stream

end Sys2Proof.Machine
